-- ==== Sys2Proof/Word.lean ====
section
/-! DEFINITION. The byte, the 16-byte packet and its all-zero value (00_scope.md R9, 20_memory.md R51). -/

namespace Sys2Proof

/-- One byte of a packet. -/
abbrev Byte := BitVec 8

/-- A packet is exactly the 16 bytes `B[0]` to `B[15]`, `B[0]` the first byte on the wire (R9, R51, R90). -/
abbrev Packet := Vector Byte 16

/-- The 15 bytes of a packet after its magic byte, `B[1]` to `B[15]`. -/
abbrev Body := Vector Byte 15

/-- Sixteen zero bytes: where every pack starts (R130) and what reset leaves in `d_req` and `d_resp` (R350). -/
def zeroPacket : Packet := #v[0, 0, 0, 0, 0, 0, 0, 0, 0, 0, 0, 0, 0, 0, 0, 0]

end Sys2Proof
end

