-- ==== Sys2Proof/Syntax.lean ====
section
/-! DEFINITION. The instructions: one constructor for each of the 69 rows of opcode_table.json (30_encoding.md R114), with
the packet families (R2, R91) and the operation descriptor (R112) they speak of. -/

namespace Sys2Proof

/-- The five width classes (R2, R132). -/
inductive WidthClass where
  | c8x8 | c8x16 | c8x32 | c16x64 | c32x32
deriving DecidableEq, Repr

/-- The seven packet families (R2, R91). `s_fam` holds one of them; its eighth code is not used (R35). -/
inductive Family where
  | width (c : WidthClass)
  | retune
  | retune2
deriving DecidableEq, Repr

/-- The operation descriptor of R112 without its operation code: every field at the width R112 gives it. A field that an
operation does not name is carried and ignored by it. -/
structure OpFields where
  target : BitVec 8 := 0
  write : Bool := false
  chan : BitVec 8 := 0
  sel : BitVec 8 := 0
  addr : BitVec 32 := 0
  data : BitVec 64 := 0
  agc : Vector (BitVec 16) 6 := #v[0, 0, 0, 0, 0, 0]
  ts : BitVec 64 := 0
  nint : BitVec 16 := 0
  nfrac : BitVec 32 := 0
  freqsel : BitVec 8 := 0
  vcocap : BitVec 8 := 0
  lowBand : Bool := false
  quickTune : Bool := false
  xbGpio : BitVec 8 := 0
  niosProfile : BitVec 16 := 0
  rffeProfile : BitVec 8 := 0
  port : BitVec 8 := 0
  spdt : BitVec 8 := 0
deriving DecidableEq, Repr

/-- The operation descriptor of R112: the operation code and the fields. `s_op` (R34) and the operation port (R41) hold one. -/
structure OpDesc where
  opc : BitVec 8 := 0
  fields : OpFields := {}
deriving DecidableEq, Repr

/-- One constructor per row of opcode_table.json. The three kinds of row (R114) are the stimuli of the three steps of the
control FSM (R205): a REQUEST is a packet the send step sends (its operands are the packet's fields), a RESPONSE is a 16-byte
buffer the receive step takes (its operand is the 15 bytes after the magic), an OPERATION is a descriptor the accept step
takes (its operand is the whole record, which R192 stores in `s_op`). Assumption log 7, 12, 13. -/
inductive Instr where
  /-- Request row `8X8_RD` (R135). -/
  | req8x8Rd (target : Byte) (addr : BitVec 8) (data : BitVec 8)
  /-- Request row `8X8_WR` (R135). -/
  | req8x8Wr (target : Byte) (addr : BitVec 8) (data : BitVec 8)
  /-- Request row `8X16_RD` (R137). -/
  | req8x16Rd (target : Byte) (addr : BitVec 8) (data : BitVec 16)
  /-- Request row `8X16_WR` (R137). -/
  | req8x16Wr (target : Byte) (addr : BitVec 8) (data : BitVec 16)
  /-- Request row `8X32_RD` (R139). -/
  | req8x32Rd (target : Byte) (addr : BitVec 8) (data : BitVec 32)
  /-- Request row `8X32_WR` (R139). -/
  | req8x32Wr (target : Byte) (addr : BitVec 8) (data : BitVec 32)
  /-- Request row `16X64_RD` (R141). -/
  | req16x64Rd (target : Byte) (addr : BitVec 16) (data : BitVec 64)
  /-- Request row `16X64_WR` (R141). -/
  | req16x64Wr (target : Byte) (addr : BitVec 16) (data : BitVec 64)
  /-- Request row `32X32_RD` (R143). -/
  | req32x32Rd (target : Byte) (addr : BitVec 32) (data : BitVec 32)
  /-- Request row `32X32_WR` (R143). -/
  | req32x32Wr (target : Byte) (addr : BitVec 32) (data : BitVec 32)
  /-- Request row `RETUNE_REQ` (R170). -/
  | reqRetune (ts : BitVec 64) (nint : BitVec 9) (nfrac : BitVec 23) (freqselByte bandselByte xbGpio : Byte)
  /-- Request row `RETUNE2_REQ` (R172). -/
  | reqRetune2 (ts : BitVec 64) (niosProfile : BitVec 16) (rffeProfile portByte spdt : Byte)
  /-- Response row `8X8_RSP` (R136). -/
  | rsp8x8 (body : Body)
  /-- Response row `8X16_RSP` (R138). -/
  | rsp8x16 (body : Body)
  /-- Response row `8X32_RSP` (R140). -/
  | rsp8x32 (body : Body)
  /-- Response row `16X64_RSP` (R142). -/
  | rsp16x64 (body : Body)
  /-- Response row `32X32_RSP` (R144). -/
  | rsp32x32 (body : Body)
  /-- Response row `RETUNE_RSP` (R171). -/
  | rspRetune (body : Body)
  /-- Response row `RETUNE2_RSP` (R173). -/
  | rspRetune2 (body : Body)
  /-- Operation row `ACC_8X8` (R223). -/
  | acc8x8 (o : OpFields)
  /-- Operation row `ACC_8X16` (R224). -/
  | acc8x16 (o : OpFields)
  /-- Operation row `ACC_8X32` (R225). -/
  | acc8x32 (o : OpFields)
  /-- Operation row `ACC_16X64` (R226). -/
  | acc16x64 (o : OpFields)
  /-- Operation row `ACC_32X32` (R227). -/
  | acc32x32 (o : OpFields)
  /-- Operation row `LMS_READ` (R228). -/
  | lmsRead (o : OpFields)
  /-- Operation row `LMS_WRITE` (R229). -/
  | lmsWrite (o : OpFields)
  /-- Operation row `SI5338_READ` (R230). -/
  | si5338Read (o : OpFields)
  /-- Operation row `SI5338_WRITE` (R231). -/
  | si5338Write (o : OpFields)
  /-- Operation row `TAMER_GET` (R234). -/
  | tamerGet (o : OpFields)
  /-- Operation row `TAMER_SET` (R235). -/
  | tamerSet (o : OpFields)
  /-- Operation row `TRIG_READ_TX` (R236). -/
  | trigReadTx (o : OpFields)
  /-- Operation row `TRIG_READ_RX` (R236). -/
  | trigReadRx (o : OpFields)
  /-- Operation row `TRIG_WRITE_TX` (R237). -/
  | trigWriteTx (o : OpFields)
  /-- Operation row `TRIG_WRITE_RX` (R237). -/
  | trigWriteRx (o : OpFields)
  /-- Operation row `VCTCXO_DAC_READ` (R238). -/
  | vctcxoDacRead (o : OpFields)
  /-- Operation row `VCTCXO_DAC_WRITE` (R239). -/
  | vctcxoDacWrite (o : OpFields)
  /-- Operation row `IQCORR_READ` (R241). -/
  | iqcorrRead (o : OpFields)
  /-- Operation row `IQCORR_WRITE` (R242). -/
  | iqcorrWrite (o : OpFields)
  /-- Operation row `AGC_DC_WRITE` (R247). -/
  | agcDcWrite (o : OpFields)
  /-- Operation row `AD56X1_READ` (R243). -/
  | ad56x1Read (o : OpFields)
  /-- Operation row `AD56X1_WRITE` (R244). -/
  | ad56x1Write (o : OpFields)
  /-- Operation row `INA219_READ` (R245). -/
  | ina219Read (o : OpFields)
  /-- Operation row `INA219_WRITE` (R246). -/
  | ina219Write (o : OpFields)
  /-- Operation row `FPGA_VERSION_READ` (R251). -/
  | fpgaVersionRead (o : OpFields)
  /-- Operation row `CONFIG_READ` (R249). -/
  | configRead (o : OpFields)
  /-- Operation row `CONFIG_WRITE` (R250). -/
  | configWrite (o : OpFields)
  /-- Operation row `XB200_READ` (R252). -/
  | xb200Read (o : OpFields)
  /-- Operation row `XB200_WRITE` (R253). -/
  | xb200Write (o : OpFields)
  /-- Operation row `RFFE_READ` (R254). -/
  | rffeRead (o : OpFields)
  /-- Operation row `RFFE_WRITE` (R255). -/
  | rffeWrite (o : OpFields)
  /-- Operation row `ADF400X_READ` (R256). -/
  | adf400xRead (o : OpFields)
  /-- Operation row `ADF400X_WRITE` (R257). -/
  | adf400xWrite (o : OpFields)
  /-- Operation row `FASTLOCK_READ` (R258). -/
  | fastlockRead (o : OpFields)
  /-- Operation row `FASTLOCK_WRITE` (R259). -/
  | fastlockWrite (o : OpFields)
  /-- Operation row `AD9361_READ` (R260). -/
  | ad9361Read (o : OpFields)
  /-- Operation row `AD9361_WRITE` (R261). -/
  | ad9361Write (o : OpFields)
  /-- Operation row `RFIC_READ` (R262). -/
  | rficRead (o : OpFields)
  /-- Operation row `RFIC_WRITE` (R263). -/
  | rficWrite (o : OpFields)
  /-- Operation row `EXPGPIO_READ` (R264). -/
  | expgpioRead (o : OpFields)
  /-- Operation row `EXPGPIO_WRITE` (R265). -/
  | expgpioWrite (o : OpFields)
  /-- Operation row `EXPGPIO_DIR_READ` (R266). -/
  | expgpioDirRead (o : OpFields)
  /-- Operation row `EXPGPIO_DIR_WRITE` (R267). -/
  | expgpioDirWrite (o : OpFields)
  /-- Operation row `ADI_AXI_READ` (R268). -/
  | adiAxiRead (o : OpFields)
  /-- Operation row `ADI_AXI_WRITE` (R269). -/
  | adiAxiWrite (o : OpFields)
  /-- Operation row `WISHBONE_READ` (R270). -/
  | wishboneRead (o : OpFields)
  /-- Operation row `WISHBONE_WRITE` (R271). -/
  | wishboneWrite (o : OpFields)
  /-- Operation row `RETUNE` (R301). -/
  | retune (o : OpFields)
  /-- Operation row `RETUNE2` (R302). -/
  | retune2 (o : OpFields)
  /-- Operation row `DRAIN` (R201). -/
  | drain (o : OpFields)
deriving DecidableEq, Repr

end Sys2Proof
end

