-- ==== Sys2Proof/Machine/Opcodes.lean ====
section
/-! DEFINITION. The operation codes of 30_encoding.md R113 and the channel codes of R112. -/

namespace Sys2Proof.Machine

/-- Channel RX (R112). -/
def chanRx : BitVec 8 := 0

/-- Channel TX (R112). -/
def chanTx : BitVec 8 := 1

/-- R113, R223. -/
def Opc.acc8x8 : BitVec 8 := 0x10

/-- R113, R224. -/
def Opc.acc8x16 : BitVec 8 := 0x11

/-- R113, R225. -/
def Opc.acc8x32 : BitVec 8 := 0x12

/-- R113, R226. -/
def Opc.acc16x64 : BitVec 8 := 0x13

/-- R113, R227. -/
def Opc.acc32x32 : BitVec 8 := 0x14

/-- R113, R228. -/
def Opc.lmsRead : BitVec 8 := 0x20

/-- R113, R229. -/
def Opc.lmsWrite : BitVec 8 := 0x21

/-- R113, R230. -/
def Opc.si5338Read : BitVec 8 := 0x22

/-- R113, R231. -/
def Opc.si5338Write : BitVec 8 := 0x23

/-- R113, R234. -/
def Opc.tamerGet : BitVec 8 := 0x24

/-- R113, R235. -/
def Opc.tamerSet : BitVec 8 := 0x25

/-- R113, R236. -/
def Opc.trigRead : BitVec 8 := 0x26

/-- R113, R237. -/
def Opc.trigWrite : BitVec 8 := 0x27

/-- R113, R238. -/
def Opc.vctcxoDacRead : BitVec 8 := 0x30

/-- R113, R239. -/
def Opc.vctcxoDacWrite : BitVec 8 := 0x31

/-- R113, R241. -/
def Opc.iqcorrRead : BitVec 8 := 0x32

/-- R113, R242. -/
def Opc.iqcorrWrite : BitVec 8 := 0x33

/-- R113, R247. -/
def Opc.agcDcWrite : BitVec 8 := 0x34

/-- R113, R243. -/
def Opc.ad56x1Read : BitVec 8 := 0x35

/-- R113, R244. -/
def Opc.ad56x1Write : BitVec 8 := 0x36

/-- R113, R245. -/
def Opc.ina219Read : BitVec 8 := 0x37

/-- R113, R246. -/
def Opc.ina219Write : BitVec 8 := 0x38

/-- R113, R251. -/
def Opc.fpgaVersionRead : BitVec 8 := 0x40

/-- R113, R249. -/
def Opc.configRead : BitVec 8 := 0x41

/-- R113, R250. -/
def Opc.configWrite : BitVec 8 := 0x42

/-- R113, R252. -/
def Opc.xb200Read : BitVec 8 := 0x43

/-- R113, R253. -/
def Opc.xb200Write : BitVec 8 := 0x44

/-- R113, R254. -/
def Opc.rffeRead : BitVec 8 := 0x45

/-- R113, R255. -/
def Opc.rffeWrite : BitVec 8 := 0x46

/-- R113, R256. -/
def Opc.adf400xRead : BitVec 8 := 0x47

/-- R113, R257. -/
def Opc.adf400xWrite : BitVec 8 := 0x48

/-- R113, R258. -/
def Opc.fastlockRead : BitVec 8 := 0x49

/-- R113, R259. -/
def Opc.fastlockWrite : BitVec 8 := 0x4A

/-- R113, R260. -/
def Opc.ad9361Read : BitVec 8 := 0x50

/-- R113, R261. -/
def Opc.ad9361Write : BitVec 8 := 0x51

/-- R113, R262. -/
def Opc.rficRead : BitVec 8 := 0x52

/-- R113, R263. -/
def Opc.rficWrite : BitVec 8 := 0x53

/-- R113, R264. -/
def Opc.expgpioRead : BitVec 8 := 0x60

/-- R113, R265. -/
def Opc.expgpioWrite : BitVec 8 := 0x61

/-- R113, R266. -/
def Opc.expgpioDirRead : BitVec 8 := 0x62

/-- R113, R267. -/
def Opc.expgpioDirWrite : BitVec 8 := 0x63

/-- R113, R268. -/
def Opc.adiAxiRead : BitVec 8 := 0x64

/-- R113, R269. -/
def Opc.adiAxiWrite : BitVec 8 := 0x65

/-- R113, R270. -/
def Opc.wishboneRead : BitVec 8 := 0x66

/-- R113, R271. -/
def Opc.wishboneWrite : BitVec 8 := 0x67

/-- R113, R301. -/
def Opc.retune : BitVec 8 := 0x70

/-- R113, R302. -/
def Opc.retune2 : BitVec 8 := 0x71

/-- R113, R201. -/
def Opc.drain : BitVec 8 := 0x7F

/-- Whether an operation code is `RETUNE` or `RETUNE2` (R192, R304, R321). -/
def isRetuneOpc (opc : BitVec 8) : Bool := opc == Opc.retune || opc == Opc.retune2

end Sys2Proof.Machine
end

