-- ==== Sys2Proof/Machine/Packet.lean ====
section
/-! DEFINITION. Bytes of a packet and the primitives `MemRead` and `MemWrite` of 00_scope.md R10. -/

namespace Sys2Proof.Machine

/-- `B[i]`. No rule names an offset outside 0 to 15 (R51); such an offset reads 0 here (assumption log 23). -/
def byteAt (B : Packet) (i : Nat) : Byte := if h : i < 16 then B[i] else 0

/-- `B[i] <- v`. No rule names an offset outside 0 to 15 (R51); such a write is dropped here (assumption log 23). -/
def setByteAt (B : Packet) (i : Nat) (v : Byte) : Packet := B.setIfInBounds i v

/-- `MemRead(B, off, n)` of R10: the sum over `k` below `n` of `B[off+k] << (8*k)`. -/
def memRead (B : Packet) (off : Nat) : Nat → Nat
  | 0 => 0
  | n + 1 => (byteAt B off).toNat + 256 * memRead B (off + 1) n

/-- `MemWrite(B, off, n, v)` of R10: byte `k` of `v` goes to `B[off+k]`; the bits of `v` above `8n-1` are dropped (R12). -/
def memWrite (B : Packet) (off : Nat) : Nat → Nat → Packet
  | 0, _ => B
  | n + 1, v => memWrite (setByteAt B off (BitVec.ofNat 8 v)) (off + 1) n (v / 256)

/-- The packet with magic byte `m` and the remaining bytes `b`. -/
def frame (m : Byte) (b : Body) : Packet :=
  #v[m, b[0], b[1], b[2], b[3], b[4], b[5], b[6], b[7], b[8], b[9], b[10], b[11], b[12], b[13], b[14]]

/-- The bytes of a packet after its magic. -/
def bodyOf (B : Packet) : Body :=
  #v[B[1], B[2], B[3], B[4], B[5], B[6], B[7], B[8], B[9], B[10], B[11], B[12], B[13], B[14], B[15]]

end Sys2Proof.Machine
end

