-- ==== Sys2Proof/Machine/Flags.lean ====
section
/-! DEFINITION. The flag bits inside packets: the width-class flags byte (10_state.md R22), the retune flags bytes (R23), and
the assembled bytes of the retune requests (30_encoding.md R104 to R107). -/

namespace Sys2Proof.Machine

/-- The flags byte a request carries: bit 0 = write, bits 7:1 = 0 (R22, R92, R130). -/
def requestFlags (write : Bool) : Byte := if write then 0x01 else 0x00

/-- Bit 0 of a flags byte, WRITE (R22). -/
def flagWrite (f : Byte) : Bool := f.getLsbD 0

/-- Bit 1 of a flags byte: SUCCESS where the family defines it, raw `flag1` otherwise (R22, R23, R133). -/
def flagBit1 (f : Byte) : Bool := f.getLsbD 1

/-- PLL tuning word, byte 9: `trunc_8(nint >> 1)` (R104). -/
def pllByte9 (nint : BitVec 16) : Byte := (nint >>> 1).setWidth 8

/-- PLL tuning word, byte 10: `((nint & 1) << 7) | ((nfrac >> 16) & 0x7f)` (R104). -/
def pllByte10 (nint : BitVec 16) (nfrac : BitVec 32) : Byte :=
  ((nint &&& 1).setWidth 8 <<< 7) ||| ((nfrac >>> 16).setWidth 8 &&& 0x7f)

/-- PLL tuning word, byte 11: `(nfrac >> 8) & 0xff` (R104). -/
def pllByte11 (nfrac : BitVec 32) : Byte := (nfrac >>> 8).setWidth 8

/-- PLL tuning word, byte 12: `nfrac & 0xff` (R104). -/
def pllByte12 (nfrac : BitVec 32) : Byte := nfrac.setWidth 8

/-- The freqsel byte: `freqsel` ORed unmasked with bit 6 for RX and bit 7 for TX (R105). -/
def freqselByte (freqsel chan : Byte) : Byte :=
  freqsel ||| (if chan = chanRx then 0x40 else 0x00) ||| (if chan = chanTx then 0x80 else 0x00)

/-- The bandsel byte: `vcocap` ORed unmasked with bit 7 for low band and bit 6 for quick tune (R106). -/
def bandselByte (vcocap : Byte) (lowBand quickTune : Bool) : Byte :=
  vcocap ||| (if lowBand then 0x80 else 0x00) ||| (if quickTune then 0x40 else 0x00)

/-- The port byte: bits 6:0 of `port`, and bit 7 set exactly when `port[7]` is 0 and the channel is not TX (R107). -/
def portByte (port chan : Byte) : Byte :=
  (port &&& 0x7f) ||| (if port.getLsbD 7 = false ∧ chan ≠ chanTx then 0x80 else 0x00)

end Sys2Proof.Machine
end

