-- ==== Sys2Proof/Machine/Status.lean ====
section
/-! DEFINITION. The status codes of 60_exceptions.md R320. -/

namespace Sys2Proof.Machine

/-- What `res_status` holds (R320). Codes 8 to 15 are never written, so they have no constructor (93 I27). -/
inductive Status where
  | ok | transportError | framingError | unexpectedValue | queueFull | tuneFailure | invalidArgument | operationFailed
deriving DecidableEq, Repr

/-- The 4-bit code of a status (R320). -/
def statusCode : Status → BitVec 4
  | .ok => 0
  | .transportError => 1
  | .framingError => 2
  | .unexpectedValue => 3
  | .queueFull => 4
  | .tuneFailure => 5
  | .invalidArgument => 6
  | .operationFailed => 7

end Sys2Proof.Machine
end

