-- ==== Sys2Proof/Machine/WidthCodec.lean ====
section
/-! DEFINITION. The five width-class codec engines: `pack_C`, `unpack_C`, `verdict_C` (40_width_codecs.md R130 to R134), and
the magic tags and codes of all seven families (30_encoding.md R91). -/

namespace Sys2Proof.Machine

/-- `MAGIC_C` (R132). -/
def widthMagic : WidthClass → Byte
  | .c8x8 => 0x41
  | .c8x16 => 0x42
  | .c8x32 => 0x43
  | .c16x64 => 0x45
  | .c32x32 => 0x4B

/-- The magic byte of a family (R91). -/
def familyMagic : Family → Byte
  | .width c => widthMagic c
  | .retune => 0x54
  | .retune2 => 0x55

/-- The family code of R91 and R112, as `s_fam` holds it (R35). -/
def familyCode : Family → BitVec 3
  | .width .c8x8 => 0
  | .width .c8x16 => 1
  | .width .c8x32 => 2
  | .width .c16x64 => 3
  | .width .c32x32 => 4
  | .retune => 5
  | .retune2 => 6

/-- `AOFF_C` (R132): the offset of the address field, 4 in every class. -/
def addrOff : WidthClass → Nat
  | _ => 4

/-- `AW_C` (R132): the bytes of the address field. -/
def addrWidth : WidthClass → Nat
  | .c8x8 | .c8x16 | .c8x32 => 1
  | .c16x64 => 2
  | .c32x32 => 4

/-- `DOFF_C` (R132): the offset of the data field. -/
def dataOff : WidthClass → Nat
  | .c8x8 | .c8x16 | .c8x32 => 5
  | .c16x64 => 6
  | .c32x32 => 8

/-- `DW_C` (R132): the bytes of the data field. -/
def dataWidth : WidthClass → Nat
  | .c8x8 => 1
  | .c8x16 => 2
  | .c8x32 => 4
  | .c16x64 => 8
  | .c32x32 => 4

/-- 'Success bit defined' (R132, R133). -/
def definesSuccess : WidthClass → Bool
  | .c8x8 | .c8x16 => false
  | .c8x32 | .c16x64 | .c32x32 => true

/-- `pack_C(target, write, address, data)` (R130). The operands are unsigned values of any width; what does not fit a field is
dropped (R12, R103). -/
def pack (c : WidthClass) (target : Nat) (write : Bool) (address data : Nat) : Packet :=
  let B := setByteAt zeroPacket 0 (widthMagic c)
  let B := setByteAt B 1 (BitVec.ofNat 8 target)
  let B := setByteAt B 2 (requestFlags write)
  let B := memWrite B (addrOff c) (addrWidth c) address
  memWrite B (dataOff c) (dataWidth c) data

/-- The outputs of `unpack_C` (R131), address and data as zero-extended values (R11). `success` is `none` where the spec
leaves it UNDEFINED (R133; assumption log 16). -/
structure Unpacked where
  target : Byte
  write : Bool
  address : BitVec 32
  data : BitVec 64
  success : Option Bool
  flag1 : Bool
deriving DecidableEq, Repr

/-- `unpack_C(B)` (R131). The error carries the magic byte that was found: `FramingError(magic = B[0])`. -/
def unpack (c : WidthClass) (B : Packet) : Except Byte Unpacked :=
  if byteAt B 0 ≠ widthMagic c then .error (byteAt B 0)
  else .ok
    { target := byteAt B 1
      write := flagWrite (byteAt B 2)
      address := BitVec.ofNat 32 (memRead B (addrOff c) (addrWidth c))
      data := BitVec.ofNat 64 (memRead B (dataOff c) (dataWidth c))
      success := if definesSuccess c then some (flagBit1 (byteAt B 2)) else none
      flag1 := flagBit1 (byteAt B 2) }

/-- `verdict_C(B)` (R134). -/
def verdict (c : WidthClass) (B : Packet) : Status :=
  if byteAt B 0 ≠ widthMagic c then .framingError
  else if definesSuccess c ∧ flagBit1 (byteAt B 2) = false then .operationFailed
  else .ok

end Sys2Proof.Machine
end

