-- ==== Sys2Proof/Machine/RetuneCodec.lean ====
section
/-! DEFINITION. The two retune codec engines and the retune flag interpreter (41_retune_codecs.md R170 to R176). -/

namespace Sys2Proof.Machine

/-- The retune request format (R98), from the timestamp, the two PLL operands and the three assembled bytes. -/
def retunePacket (ts : BitVec 64) (nint : BitVec 16) (nfrac : BitVec 32) (freqselB bandselB xbGpio : Byte) : Packet :=
  let B := setByteAt zeroPacket 0 (familyMagic .retune)
  let B := memWrite B 1 8 ts.toNat
  let B := setByteAt B 9 (pllByte9 nint)
  let B := setByteAt B 10 (pllByte10 nint nfrac)
  let B := setByteAt B 11 (pllByte11 nfrac)
  let B := setByteAt B 12 (pllByte12 nfrac)
  let B := setByteAt B 13 freqselB
  let B := setByteAt B 14 bandselB
  setByteAt B 15 xbGpio

/-- `PACK_RETUNE` (R170). -/
def packRetune (chan : Byte) (ts : BitVec 64) (nint : BitVec 16) (nfrac : BitVec 32) (freqsel vcocap : Byte)
    (lowBand quickTune : Bool) (xbGpio : Byte) : Packet :=
  retunePacket ts nint nfrac (freqselByte freqsel chan) (bandselByte vcocap lowBand quickTune) xbGpio

/-- The retune2 request format (R100), from its five fields; bytes 14 and 15 stay 0. -/
def retune2Packet (ts : BitVec 64) (niosProfile : BitVec 16) (rffeProfile portB spdt : Byte) : Packet :=
  let B := setByteAt zeroPacket 0 (familyMagic .retune2)
  let B := memWrite B 1 8 ts.toNat
  let B := memWrite B 9 2 niosProfile.toNat
  let B := setByteAt B 11 rffeProfile
  let B := setByteAt B 12 portB
  setByteAt B 13 spdt

/-- `PACK_RETUNE2` (R172). -/
def packRetune2 (chan : Byte) (ts : BitVec 64) (niosProfile : BitVec 16) (rffeProfile port spdt : Byte) : Packet :=
  retune2Packet ts niosProfile rffeProfile (portByte port chan) spdt

/-- The outputs of the two retune unpacks (R171, R173). A retune2 response has no vcocap: it is 0 there, as `res_vcocap` is (R39). -/
structure RetuneReply where
  duration : BitVec 64
  vcocap : Byte
  success : Bool
deriving DecidableEq, Repr

/-- `UNPACK_RETUNE(B)` (R171): the flags byte is `B[10]` (R23). -/
def unpackRetune (B : Packet) : Except Byte RetuneReply :=
  if byteAt B 0 ≠ familyMagic .retune then .error (byteAt B 0)
  else .ok { duration := BitVec.ofNat 64 (memRead B 1 8), vcocap := byteAt B 9, success := flagBit1 (byteAt B 10) }

/-- `UNPACK_RETUNE2(B)` (R173): the flags byte is `B[9]` (R23). -/
def unpackRetune2 (B : Packet) : Except Byte RetuneReply :=
  if byteAt B 0 ≠ familyMagic .retune2 then .error (byteAt B 0)
  else .ok { duration := BitVec.ofNat 64 (memRead B 1 8), vcocap := 0, success := flagBit1 (byteAt B 9) }

/-- `INTERPRET_RETUNE(success, ts_req)` (R174): it reads the success bit, the request's timestamp and the sentinel, and
nothing else (R175). -/
def interpretRetune (success : Bool) (tsReq retuneNow : BitVec 64) : Status :=
  if success then .ok else if tsReq = retuneNow then .tuneFailure else .queueFull

/-- `verdict_RETUNE(B, ts_req)` (R176). -/
def verdictRetune (B : Packet) (tsReq retuneNow : BitVec 64) : Status :=
  if byteAt B 0 ≠ familyMagic .retune then .framingError
  else interpretRetune (flagBit1 (byteAt B 10)) tsReq retuneNow

/-- `verdict_RETUNE2(B, ts_req)` (R176). -/
def verdictRetune2 (B : Packet) (tsReq retuneNow : BitVec 64) : Status :=
  if byteAt B 0 ≠ familyMagic .retune2 then .framingError
  else interpretRetune (flagBit1 (byteAt B 9)) tsReq retuneNow

end Sys2Proof.Machine
end

