-- ==== Sys2Proof/Config.lean ====
section
/-! DEFINITION. The implementation parameters of 00_scope.md R7. A parameter the spec marks OPEN is an opaque constant:
it has no body, so nothing can be proved of its value ('no claim may assume a value for it'). See assumption log 5. -/

namespace Sys2Proof

/-- OPEN parameter `CMD_EP` (R7, R24): the command endpoint. -/
opaque Config.cmdEp : BitVec 8

/-- OPEN parameter `RESP_EP` (R7, R25): the response endpoint. -/
opaque Config.respEp : BitVec 8

/-- Parameter `RESP_LEN` (R7, R26): 16, fixed. -/
def Config.respLen : BitVec 8 := 16

/-- OPEN parameter `RETUNE_NOW` (R7, R27): the 'tune immediately' sentinel timestamp. -/
opaque Config.retuneNow : BitVec 64

/-- OPEN parameter `TAMER_ADDR` (R7, R28): the address field of a tamer access. -/
opaque Config.tamerAddr : BitVec 8

/-- OPEN parameters `TRIG_ADDR(0)`, `TRIG_ADDR(1)`, `TRIG_ADDR(2)` (R7, R29): the address field of a trigger access. -/
opaque Config.trigAddr : Vector (BitVec 8) 3

end Sys2Proof
end

