-- ==== Sys2Proof/Machine/State.lean ====
section
/-! DEFINITION. The state of the block (10_state.md R46 lists it whole), the inputs of the two other agents, and reset. -/

namespace Sys2Proof.Machine

/-- The configuration registers (R24 to R29). No step writes them and reset leaves them (R351). -/
structure Cfg where
  cmdEp : BitVec 8
  respEp : BitVec 8
  respLen : BitVec 8
  retuneNow : BitVec 64
  tamerAddr : BitVec 8
  trigAddr : Vector (BitVec 8) 3
deriving DecidableEq, Repr

/-- The values the model is instantiated with (R7, R8, R351). -/
def Cfg.instantiated : Cfg where
  cmdEp := Config.cmdEp
  respEp := Config.respEp
  respLen := Config.respLen
  retuneNow := Config.retuneNow
  tamerAddr := Config.tamerAddr
  trigAddr := Config.trigAddr

/-- `d_state` (R30). Encoding 3 is not used, so it has no constructor. -/
inductive DState where
  | idle | send | recv
deriving DecidableEq, Repr

/-- `d_link` (R33): 0 and 1. -/
inductive Link where
  | sync | unsync
deriving DecidableEq, Repr

/-- `r_state` (R37): 0 to 5 in this order. Encodings 6 and 7 are not used, so they have no constructor. -/
inductive RState where
  | idle | scheduled | done | fail | qfull | err
deriving DecidableEq, Repr

/-- `r_kind` (R38): 0 and 1. -/
inductive RKind where
  | retune | retune2
deriving DecidableEq, Repr

/-- The result registers (R39). Every default is 0, the value a register that does not apply is written with (R40). -/
structure Result where
  valid : Bool := false
  status : Status := .ok
  data : BitVec 64 := 0
  write : Bool := false
  flag1 : Bool := false
  idx : BitVec 3 := 0
  major : BitVec 8 := 0
  minor : BitVec 8 := 0
  patch : BitVec 8 := 0
  duration : BitVec 64 := 0
  vcocap : BitVec 8 := 0
  rstate : RState := .idle
  link : Link := .sync
deriving DecidableEq, Repr

/-- The outcome of a `Send` (R10). -/
inductive SendOutcome where
  | ok
  | terr (e : BitVec 8)
deriving DecidableEq, Repr

/-- The outcome of a `Recv` (R10). When `len` is not 16 the content of `buf` is not used. -/
inductive RecvOutcome where
  | ok (len : BitVec 8) (buf : Packet)
  | terr (e : BitVec 8)
deriving DecidableEq, Repr

/-- What the trace records: each call of a transport primitive with its operands and its outcome (R43), and each reset. -/
inductive Event where
  | sent (ep : BitVec 8) (buf : Packet) (outcome : SendOutcome)
  | received (ep : BitVec 8) (outcome : RecvOutcome)
  | reset
deriving DecidableEq, Repr

/-- The inputs of the other two agents, and the record of the transport calls: the MODEL's own fields, no registers of the
block (R5, R44). The draws of the environment are free inputs: nothing constrains these lists (assumption log 1 and 2). -/
structure Env where
  /-- The reset input at each coming step; not asserted once the list has ended (R350). -/
  resetIn : List Bool := []
  /-- The operations the caller offers, the first standing on the operation port: `op_valid` is 'not empty' (R41). -/
  offers : List OpDesc := []
  /-- The outcomes of the coming `Send` calls; where the list has ended, the transport has not returned (93 I8). -/
  sends : List SendOutcome := []
  /-- The outcomes of the coming `Recv` calls; where the list has ended, the transport has not returned (93 I8, I10). -/
  recvs : List RecvOutcome := []
  /-- Every transport call and every reset so far, the newest first. -/
  trace : List Event := []
deriving DecidableEq, Repr

/-- The machine: the registers of R46 and the environment. -/
structure State where
  /-- Configuration registers (R24 to R29). -/
  cfg : Cfg
  /-- `d_state` (R30). -/
  dState : DState
  /-- `d_req` (R31). -/
  dReq : Packet
  /-- `d_resp` (R32). -/
  dResp : Packet
  /-- `d_link` (R33). -/
  dLink : Link
  /-- `s_op` (R34). -/
  sOp : OpDesc
  /-- `s_fam` (R35). -/
  sFam : Family
  /-- `s_idx` (R36): it holds 0 to 5; codes 6 and 7 of the 3-bit register are not used (assumption log 19). -/
  sIdx : Fin 6
  /-- `r_state` (R37). -/
  rState : RState
  /-- `r_ts` (R38). -/
  rTs : BitVec 64
  /-- `r_kind` (R38). -/
  rKind : RKind
  /-- The result registers (R39). -/
  res : Result
  /-- The caller's and the environment's inputs (R5, R44). -/
  env : Env
deriving DecidableEq, Repr

/-- Why the machine stops with a fault: never. Every error of the spec ends the OPERATION with a status code and leaves the
block ready (R330, R332), so no constructor exists (assumption log 26). Nobody raises it; safe. -/
inductive Fault where
deriving DecidableEq, Repr

/-- Why a step has no meaning. -/
inductive Refusal where
  /-- An arm of `exec` not written yet raises it; safe. No arm of this model does. -/
  | notModelled (mnemonic : String)
  /-- `step` raises it when `CFG_RESP_LEN` is not 16: such an instantiation 'has no meaning in this spec' and is refused (R26,
  93 I14); safe. -/
  | responseLengthNotSixteen
deriving DecidableEq, Repr

/-- `op_ready` (R41). -/
def opReady (s : State) : Bool := s.dState == .idle

/-- `op_valid` (R41). -/
def opValid (s : State) : Bool := !s.env.offers.isEmpty

/-- What reset writes (R350): every register of the block but the configuration registers (R351). The environment and the
caller are not reached (R352). -/
def clearRegisters (s : State) : State :=
  { s with
    dState := .idle
    dReq := zeroPacket
    dResp := zeroPacket
    dLink := .sync
    sOp := {}
    sFam := .width .c8x8
    sIdx := 0
    rState := .idle
    rTs := 0
    rKind := .retune
    res := {} }

/-- The machine right after reset: every register as R350 says, the configuration registers at the values the model is
instantiated with (R351), and no input given yet (assumption log 1). -/
def State.reset : State where
  cfg := Cfg.instantiated
  dState := .idle
  dReq := zeroPacket
  dResp := zeroPacket
  dLink := .sync
  sOp := {}
  sFam := .width .c8x8
  sIdx := 0
  rState := .idle
  rTs := 0
  rKind := .retune
  res := {}
  env := {}

end Sys2Proof.Machine
end

