-- ==== Sys2Proof/Machine/Operands.lean ====
section
/-! DEFINITION. The operand forms: the argument checks of `DECODE` (43_target_map.md R221) and the requests `REQ(op, k)` the
operations build from their descriptors. `none` is the verdict INVALID. -/

namespace Sys2Proof.Machine

/-- A channel in its domain (R221). -/
def chanOk (chan : BitVec 8) : Bool := chan == chanRx || chan == chanTx

/-- The request of a generic access (R223 to R227): a read carries data 0. -/
def genericRequest (c : WidthClass) (o : OpFields) : Option (Family × Packet) :=
  some (.width c, pack c o.target.toNat o.write o.addr.toNat (if o.write then o.data.toNat else 0))

/-- The request of a named read at the caller's address: `pack_C(target, 0, op.addr, 0)`. -/
def readRequest (c : WidthClass) (target : Nat) (o : OpFields) : Option (Family × Packet) :=
  some (.width c, pack c target false o.addr.toNat 0)

/-- The request of a named write at the caller's address: `pack_C(target, 1, op.addr, op.data)`. -/
def writeRequest (c : WidthClass) (target : Nat) (o : OpFields) : Option (Family × Packet) :=
  some (.width c, pack c target true o.addr.toNat o.data.toNat)

/-- The 8x8 target of the VCTCXO tamer mode (R54). -/
def tamerTarget : Nat := 2

/-- The request of `TAMER_GET` (R234). -/
def tamerGetRequest (cfg : Cfg) : Option (Family × Packet) :=
  some (.width .c8x8, pack .c8x8 tamerTarget false cfg.tamerAddr.toNat 0)

/-- The check and the request of `TAMER_SET` (R235): the check reads the full 64-bit operand. -/
def tamerSetRequest (cfg : Cfg) (o : OpFields) : Option (Family × Packet) :=
  if o.data.toNat ≤ 2 then some (.width .c8x8, pack .c8x8 tamerTarget true cfg.tamerAddr.toNat o.data.toNat) else none

/-- The 8x8 target of a trigger (R232): 3 for TX, 4 for RX. -/
def trigTarget (chan : BitVec 8) : Nat := if chan = chanTx then 3 else 4

/-- The check and the request of `TRIG_READ` and `TRIG_WRITE` (R236, R237): the signal reaches the packet only as the
configured address. -/
def trigRequest (cfg : Cfg) (write : Bool) (data : Nat) (o : OpFields) : Option (Family × Packet) :=
  if h : chanOk o.chan ∧ o.sel.toNat < 3 then
    some (.width .c8x8, pack .c8x8 (trigTarget o.chan) write (cfg.trigAddr[o.sel.toNat]'h.2).toNat data)
  else none

/-- The check and the request of `IQCORR_READ` and `IQCORR_WRITE` (R240 to R242): the selector is the field's address. -/
def iqRequest (write : Bool) (data : Nat) (o : OpFields) : Option (Family × Packet) :=
  if o.sel.toNat ≤ 3 then some (.width .c8x16, pack .c8x16 1 write o.sel.toNat data) else none

/-- Request `k` of `AGC_DC_WRITE` (R247): `pack_8x16(2, 1, k, op.agc[k])`. -/
def agcRequest (o : OpFields) (k : Fin 6) : Packet := pack .c8x16 2 true k.val o.agc[k].toNat

/-- The check and the request of `RETUNE` (R301). -/
def retuneRequest (o : OpFields) : Option (Family × Packet) :=
  if chanOk o.chan then
    some (.retune,
      packRetune o.chan o.ts o.nint o.nfrac o.freqsel o.vcocap o.lowBand o.quickTune o.xbGpio)
  else none

/-- The check and the request of `RETUNE2` (R302). -/
def retune2Request (o : OpFields) : Option (Family × Packet) :=
  if chanOk o.chan then
    some (.retune2, packRetune2 o.chan o.ts o.niosProfile o.rffeProfile o.port o.spdt)
  else none

end Sys2Proof.Machine
end

