-- ==== Sys2Proof/Machine/Ops.lean ====
section
/-! DEFINITION. The shared operations of the control FSM: ending an operation (`end OK`, `raise E`: 60_exceptions.md R321), the
accept step (42_dispatcher.md R192), the send step (R193), the ends of the receive step (R194, R195, R201), and reset (R350). -/

namespace Sys2Proof.Machine

/-- The last write of an ending operation (R321): the result registers with the copies of `r_state` and `d_link` as they are
after the step, `res_valid` and `D_IDLE`. -/
def finish (r : Result) (s : State) : State :=
  { s with
    dState := .idle
    res := { r with valid := true, rstate := s.rState, link := s.dLink } }

/-- `end OK with …` (R321): `r` holds the named outputs and the registers the step wrote; the others are 0 (R40). -/
def endOk (r : Result) (s : State) : State := finish { r with status := .ok } s

/-- The errors after which a retune's outcome is unknown (R304, R321). -/
def leavesRetuneUnknown : Status → Bool
  | .transportError | .framingError | .invalidArgument => true
  | .ok | .unexpectedValue | .queueFull | .tuneFailure | .operationFailed => false

/-- `raise E(info)` (R321): the one way an operation ends with an error. `r` holds what the step wrote to the result registers
before; `res_idx` is the failed index of an `AGC_DC_WRITE` (R247), and a retune is left in `R_ERR` (R304). -/
def raise (e : Status) (info : BitVec 64) (r : Result) (s : State) : State :=
  finish
    { r with
      status := e
      data := info
      idx := if s.sOp.opc = Opc.agcDcWrite then BitVec.ofNat 3 s.sIdx.val else r.idx }
    { s with rState := if isRetuneOpc s.sOp.opc ∧ leavesRetuneUnknown e then .err else s.rState }

/-- The writes every accept step makes (R192): `res_valid <- 0`, `s_op <- op`, `s_idx <- 0`. -/
def latch (d : OpDesc) (s : State) : State :=
  { s with res := { s.res with valid := false }, sOp := d, sIdx := 0 }

/-- `RETUNE_ACCEPT(op)` (R301). -/
def retuneAccept (d : OpDesc) (s : State) : State :=
  { s with
    rState := .scheduled
    rTs := d.fields.ts
    rKind := if d.opc = Opc.retune2 then .retune2 else .retune }

/-- The accept step of an operation `DECODE` rejects (R192, R327): no exchange, `InvalidArgument(0)`. -/
def acceptInvalid (d : OpDesc) (s : State) : State := raise .invalidArgument 0 {} (latch d s)

/-- The accept step of an operation with the family and first request `DECODE` gives (R192, R220). -/
def acceptRequest (d : OpDesc) (fam : Family) (B : Packet) (s : State) : State :=
  let s := { latch d s with sFam := fam, dReq := B, dState := .send }
  if isRetuneOpc d.opc then retuneAccept d s else s

/-- The accept step of `DRAIN` (R192, R201): receive only. -/
def acceptDrain (d : OpDesc) (s : State) : State := { latch d s with dState := .recv }

/-- The meaning of an operation row: the accept step (R192), enabled in `D_IDLE` only. While the block is busy the offer
waits, not lost and not refused (R196). `req` is the verdict of `DECODE` (R221): `none` is INVALID. -/
def accept (opc : BitVec 8) (o : OpFields) (req : Option (Family × Packet)) (s : State) : Host.Outcome State Fault Refusal :=
  .next
    (match s.dState with
    | .idle =>
      match req with
      | none => acceptInvalid ⟨opc, o⟩ s
      | some (fam, B) => acceptRequest ⟨opc, o⟩ fam B s
    | .send | .recv => s)

/-- A transport error ends the operation and leaves the link unsynchronised (R197, R198, R322). -/
def transportFailed (e : BitVec 8) (s : State) : State :=
  raise .transportError (e.setWidth 64) {} { s with dLink := .unsync }

/-- The send step (R193). Where the transport has not returned, the block waits in `D_SEND` (R370, 93 I8). -/
def sendStep (s : State) : State :=
  match s.env.sends with
  | [] => s
  | .ok :: rest =>
    { s with
      dState := .recv
      env := { s.env with sends := rest, trace := .sent s.cfg.cmdEp s.dReq .ok :: s.env.trace } }
  | .terr e :: rest =>
    transportFailed e
      { s with env := { s.env with sends := rest, trace := .sent s.cfg.cmdEp s.dReq (.terr e) :: s.env.trace } }

/-- The meaning of a request row: the packet stands in `d_req` and the send step sends it (R191, R193). `Send` is called in
`D_SEND` only (R43); in another state the pack engine by itself writes no register (R149). -/
def sendRequest (B : Packet) (s : State) : Host.Outcome State Fault Refusal :=
  .next
    (match s.dState with
    | .send => sendStep { s with dReq := B }
    | .idle | .recv => s)

/-- A response of a wrong length (R195, R323): not decoded, `d_resp` not written, the link unsynchronised. -/
def lengthFailed (len : BitVec 8) (s : State) : State :=
  raise .framingError (0x100 ||| len.setWidth 64) {} { s with dLink := .unsync }

/-- The receive step of `DRAIN` (R194, R201): the bytes are discarded, the link is back in step. -/
def drainDone (s : State) : State := endOk {} { s with dLink := .sync }

/-- The reset step (R350): the block's registers, no transport call, no effect on the environment (R352). -/
def resetStep (s : State) : State :=
  { clearRegisters s with env := { s.env with trace := .reset :: s.env.trace } }

end Sys2Proof.Machine
end

