-- ==== Sys2Proof/Machine/Handlers.lean ====
section
/-! DEFINITION. The response handlers: `HANDLE_WC` with its post-processing (43_target_map.md R222), `HANDLE_AGC` (R247),
`HANDLE_RETUNE` (44_retune_engine.md R303), and the receive step of a 16-byte buffer (42_dispatcher.md R194). -/

namespace Sys2Proof.Machine

/-- `POST(op, d)` of `HANDLE_WC` (R222): the outputs of an operation that ends OK, given what the step wrote already, or the
value an `UnexpectedValue` reports. The default is `res_data <- d`. -/
def post (op : OpDesc) (d : BitVec 64) (r : Result) : Except (BitVec 64) Result :=
  -- R234: a tamer mode is 0, 1 or 2 (R233)
  if op.opc = Opc.tamerGet then (if d.toNat ≤ 2 then .ok { r with data := d } else .error d)
  -- R251: the three byte fields; bits 31:24 are in none
  else if op.opc = Opc.fpgaVersionRead then
    .ok { r with data := d, major := d.extractLsb' 16 8, minor := d.extractLsb' 8 8, patch := d.extractLsb' 0 8 }
  -- R264, R266: only the masked bits
  else if op.opc = Opc.expgpioRead ∨ op.opc = Opc.expgpioDirRead then
    .ok { r with data := d &&& op.fields.addr.setWidth 64 }
  else .ok { r with data := d }

/-- `HANDLE_WC(op, fam, B)` (R222): magic, then success bit where the class defines it, then the value check (R329). -/
def handleWidth (c : WidthClass) (B : Packet) (s : State) : State :=
  match unpack c B with
  | .error m => raise .framingError (m.setWidth 64) {} s
  | .ok u =>
    let r : Result := { write := u.write, flag1 := u.flag1 }
    if u.success = some false then raise .operationFailed ((byteAt B 2).setWidth 64) r s
    else
      match post s.sOp u.data r with
      | .error d => raise .unexpectedValue d r s
      | .ok r => endOk r s

/-- `HANDLE_AGC(op, B)` (R247): one step of the sequencer. -/
def handleAgc (B : Packet) (s : State) : State :=
  if byteAt B 0 ≠ widthMagic .c8x16 then raise .framingError ((byteAt B 0).setWidth 64) {} s
  else if h : s.sIdx.val < 5 then
    let k : Fin 6 := ⟨s.sIdx.val + 1, by omega⟩
    { s with sIdx := k, dReq := agcRequest s.sOp.fields k, dState := .send }
  else endOk { flag1 := flagBit1 (byteAt B 2), idx := 6 } s

/-- What `HANDLE_RETUNE` does with a reply that passed its magic check (R303): `res_vcocap` and `res_flag1` whatever the
outcome, the duration on OK only, and `r_ts` as the error info. -/
def settleRetune (u : RetuneReply) (s : State) : State :=
  let r : Result := { vcocap := u.vcocap, flag1 := u.success }
  match interpretRetune u.success s.rTs s.cfg.retuneNow with
  | .ok => endOk { r with duration := u.duration } { s with rState := .done }
  | .tuneFailure => raise .tuneFailure s.rTs r { s with rState := .fail }
  | _ => raise .queueFull s.rTs r { s with rState := .qfull }

/-- `HANDLE_RETUNE(op, fam, B)` (R303). A bad magic leaves `R_ERR` (R303, R304). -/
def handleRetune (reply : Except Byte RetuneReply) (s : State) : State :=
  match reply with
  | .error m => raise .framingError (m.setWidth 64) {} { s with rState := .err }
  | .ok u => settleRetune u s

/-- `HANDLE(s_op, s_fam, s_idx, buf)` (R194): the sequencer for `AGC_DC_WRITE`, otherwise the handler of the family in
flight, whose codec alone unpacks the response (R108). -/
def handle (B : Packet) (s : State) : State :=
  if s.sOp.opc = Opc.agcDcWrite then handleAgc B s
  else
    match s.sFam with
    | .width c => handleWidth c B s
    | .retune => handleRetune (unpackRetune B) s
    | .retune2 => handleRetune (unpackRetune2 B) s

/-- The receive step once `Recv` has delivered 16 bytes (R194): `DRAIN` discards them (R201), every other operation stores
them in `d_resp` and handles them. -/
def takeResponse (B : Packet) (s : State) : State :=
  if s.sOp.opc = Opc.drain then drainDone s else handle B { s with dResp := B }

/-- The meaning of a response row: the buffer is taken in `D_RECV` only (R43); in another state the unpack engine by itself
writes no register (R149). -/
def receive (B : Packet) (s : State) : Host.Outcome State Fault Refusal :=
  .next
    (match s.dState with
    | .recv => takeResponse B s
    | .idle | .send => s)

end Sys2Proof.Machine
end

