-- ==== Sys2Proof/Machine/Generic.lean ====
section
/-! DEFINITION. The five generic access operations (43_target_map.md R223 to R227): any target id, read or write. -/

namespace Sys2Proof.Machine

/-- `ACC_8X8` (R223): access any 8x8 target with `pack_8x8(op.target, op.write, op.addr, op.write ? op.data : 0)`. -/
def execAcc8x8 (o : OpFields) (s : State) : Host.Outcome State Fault Refusal :=
  accept Opc.acc8x8 o (genericRequest .c8x8 o) s

/-- `ACC_8X16` (R224): access any 8x16 target with `pack_8x16(op.target, op.write, op.addr, op.write ? op.data : 0)`. -/
def execAcc8x16 (o : OpFields) (s : State) : Host.Outcome State Fault Refusal :=
  accept Opc.acc8x16 o (genericRequest .c8x16 o) s

/-- `ACC_8X32` (R225): access any 8x32 target with `pack_8x32(op.target, op.write, op.addr, op.write ? op.data : 0)`. -/
def execAcc8x32 (o : OpFields) (s : State) : Host.Outcome State Fault Refusal :=
  accept Opc.acc8x32 o (genericRequest .c8x32 o) s

/-- `ACC_16X64` (R226): access any 16x64 target with `pack_16x64(op.target, op.write, op.addr, op.write ? op.data : 0)`. -/
def execAcc16x64 (o : OpFields) (s : State) : Host.Outcome State Fault Refusal :=
  accept Opc.acc16x64 o (genericRequest .c16x64 o) s

/-- `ACC_32X32` (R227): access any 32x32 target with `pack_32x32(op.target, op.write, op.addr, op.write ? op.data : 0)`. -/
def execAcc32x32 (o : OpFields) (s : State) : Host.Outcome State Fault Refusal :=
  accept Opc.acc32x32 o (genericRequest .c32x32 o) s

end Sys2Proof.Machine
end

