-- ==== Sys2Proof/Machine/Ops16x64.lean ====
section
/-! DEFINITION. The operations of the 16x64 family (43_target_map.md): each accepts its descriptor with the request its rule gives. -/

namespace Sys2Proof.Machine

/-- `AD9361_READ` (R260): read the AD9361 SPI bridge (16x64 target 0). -/
def execAd9361Read (o : OpFields) (s : State) : Host.Outcome State Fault Refusal :=
  accept Opc.ad9361Read o (readRequest .c16x64 0 o) s

/-- `AD9361_WRITE` (R261): write the AD9361 SPI bridge (16x64 target 0). -/
def execAd9361Write (o : OpFields) (s : State) : Host.Outcome State Fault Refusal :=
  accept Opc.ad9361Write o (writeRequest .c16x64 0 o) s

/-- `RFIC_READ` (R262): read the RFIC command bridge (16x64 target 1). -/
def execRficRead (o : OpFields) (s : State) : Host.Outcome State Fault Refusal :=
  accept Opc.rficRead o (readRequest .c16x64 1 o) s

/-- `RFIC_WRITE` (R263): write the RFIC command bridge (16x64 target 1). -/
def execRficWrite (o : OpFields) (s : State) : Host.Outcome State Fault Refusal :=
  accept Opc.rficWrite o (writeRequest .c16x64 1 o) s

end Sys2Proof.Machine
end

