-- ==== Sys2Proof/Machine/Ops32x32.lean ====
section
/-! DEFINITION. The operations of the 32x32 family (43_target_map.md): each accepts its descriptor with the request its rule gives. -/

namespace Sys2Proof.Machine

/-- `EXPGPIO_READ` (R264): read the expansion GPIO value register, the address as the mask (32x32 target 0). -/
def execExpgpioRead (o : OpFields) (s : State) : Host.Outcome State Fault Refusal :=
  accept Opc.expgpioRead o (readRequest .c32x32 0 o) s

/-- `EXPGPIO_WRITE` (R265): write the expansion GPIO value register, the address as the mask (32x32 target 0). -/
def execExpgpioWrite (o : OpFields) (s : State) : Host.Outcome State Fault Refusal :=
  accept Opc.expgpioWrite o (writeRequest .c32x32 0 o) s

/-- `EXPGPIO_DIR_READ` (R266): read the expansion GPIO direction register, the address as the mask (32x32 target 1). -/
def execExpgpioDirRead (o : OpFields) (s : State) : Host.Outcome State Fault Refusal :=
  accept Opc.expgpioDirRead o (readRequest .c32x32 1 o) s

/-- `EXPGPIO_DIR_WRITE` (R267): write the expansion GPIO direction register, the address as the mask (32x32 target 1). -/
def execExpgpioDirWrite (o : OpFields) (s : State) : Host.Outcome State Fault Refusal :=
  accept Opc.expgpioDirWrite o (writeRequest .c32x32 1 o) s

/-- `ADI_AXI_READ` (R268): read the ADI-AXI bridge (32x32 target 2). -/
def execAdiAxiRead (o : OpFields) (s : State) : Host.Outcome State Fault Refusal :=
  accept Opc.adiAxiRead o (readRequest .c32x32 2 o) s

/-- `ADI_AXI_WRITE` (R269): write the ADI-AXI bridge (32x32 target 2). -/
def execAdiAxiWrite (o : OpFields) (s : State) : Host.Outcome State Fault Refusal :=
  accept Opc.adiAxiWrite o (writeRequest .c32x32 2 o) s

/-- `WISHBONE_READ` (R270): read the Wishbone master (32x32 target 3). -/
def execWishboneRead (o : OpFields) (s : State) : Host.Outcome State Fault Refusal :=
  accept Opc.wishboneRead o (readRequest .c32x32 3 o) s

/-- `WISHBONE_WRITE` (R271): write the Wishbone master (32x32 target 3). -/
def execWishboneWrite (o : OpFields) (s : State) : Host.Outcome State Fault Refusal :=
  accept Opc.wishboneWrite o (writeRequest .c32x32 3 o) s

end Sys2Proof.Machine
end

