-- ==== Sys2Proof/Machine/Ops8x16.lean ====
section
/-! DEFINITION. The operations of the 8x16 family (43_target_map.md): each accepts its descriptor with the request its rule gives. -/

namespace Sys2Proof.Machine

/-- `VCTCXO_DAC_READ` (R238): read the VCTCXO DAC (8x16 target 0). -/
def execVctcxoDacRead (o : OpFields) (s : State) : Host.Outcome State Fault Refusal :=
  accept Opc.vctcxoDacRead o (readRequest .c8x16 0 o) s

/-- `VCTCXO_DAC_WRITE` (R239): write the VCTCXO DAC (8x16 target 0). -/
def execVctcxoDacWrite (o : OpFields) (s : State) : Host.Outcome State Fault Refusal :=
  accept Opc.vctcxoDacWrite o (writeRequest .c8x16 0 o) s

/-- `IQCORR_READ` (R241): read the IQ correction field `sel`, 0 to 3. -/
def execIqcorrRead (o : OpFields) (s : State) : Host.Outcome State Fault Refusal :=
  accept Opc.iqcorrRead o (iqRequest false 0 o) s

/-- `IQCORR_WRITE` (R242): write the IQ correction field `sel`, 0 to 3. -/
def execIqcorrWrite (o : OpFields) (s : State) : Host.Outcome State Fault Refusal :=
  accept Opc.iqcorrWrite o (iqRequest true o.data.toNat o) s

/-- `AGC_DC_WRITE` (R247): six single-field writes; the accept step builds the one of index 0. -/
def execAgcDcWrite (o : OpFields) (s : State) : Host.Outcome State Fault Refusal :=
  accept Opc.agcDcWrite o (some (.width .c8x16, agcRequest o 0)) s

/-- `AD56X1_READ` (R243): read the AD56x1 DAC (8x16 target 3). -/
def execAd56x1Read (o : OpFields) (s : State) : Host.Outcome State Fault Refusal :=
  accept Opc.ad56x1Read o (readRequest .c8x16 3 o) s

/-- `AD56X1_WRITE` (R244): write the AD56x1 DAC (8x16 target 3). -/
def execAd56x1Write (o : OpFields) (s : State) : Host.Outcome State Fault Refusal :=
  accept Opc.ad56x1Write o (writeRequest .c8x16 3 o) s

/-- `INA219_READ` (R245): read the INA219 power monitor (8x16 target 4). -/
def execIna219Read (o : OpFields) (s : State) : Host.Outcome State Fault Refusal :=
  accept Opc.ina219Read o (readRequest .c8x16 4 o) s

/-- `INA219_WRITE` (R246): write the INA219 power monitor (8x16 target 4). -/
def execIna219Write (o : OpFields) (s : State) : Host.Outcome State Fault Refusal :=
  accept Opc.ina219Write o (writeRequest .c8x16 4 o) s

end Sys2Proof.Machine
end

