-- ==== Sys2Proof/Machine/Ops8x32.lean ====
section
/-! DEFINITION. The operations of the 8x32 family (43_target_map.md): each accepts its descriptor with the request its rule gives. -/

namespace Sys2Proof.Machine

/-- `FPGA_VERSION_READ` (R251): read the FPGA version with `pack_8x32(0, 0, 0, 0)`. -/
def execFpgaVersionRead (o : OpFields) (s : State) : Host.Outcome State Fault Refusal :=
  accept Opc.fpgaVersionRead o (some (.width .c8x32, pack .c8x32 0 false 0 0)) s

/-- `CONFIG_READ` (R249): read the config/control register (8x32 target 1). -/
def execConfigRead (o : OpFields) (s : State) : Host.Outcome State Fault Refusal :=
  accept Opc.configRead o (readRequest .c8x32 1 o) s

/-- `CONFIG_WRITE` (R250): write the config/control register (8x32 target 1). -/
def execConfigWrite (o : OpFields) (s : State) : Host.Outcome State Fault Refusal :=
  accept Opc.configWrite o (writeRequest .c8x32 1 o) s

/-- `XB200_READ` (R252): read the XB200 synthesizer (8x32 target 2). -/
def execXb200Read (o : OpFields) (s : State) : Host.Outcome State Fault Refusal :=
  accept Opc.xb200Read o (readRequest .c8x32 2 o) s

/-- `XB200_WRITE` (R253): write the XB200 synthesizer (8x32 target 2). -/
def execXb200Write (o : OpFields) (s : State) : Host.Outcome State Fault Refusal :=
  accept Opc.xb200Write o (writeRequest .c8x32 2 o) s

/-- `RFFE_READ` (R254): read the RFFE control/status register (8x32 target 3). -/
def execRffeRead (o : OpFields) (s : State) : Host.Outcome State Fault Refusal :=
  accept Opc.rffeRead o (readRequest .c8x32 3 o) s

/-- `RFFE_WRITE` (R255): write the RFFE control/status register (8x32 target 3). -/
def execRffeWrite (o : OpFields) (s : State) : Host.Outcome State Fault Refusal :=
  accept Opc.rffeWrite o (writeRequest .c8x32 3 o) s

/-- `ADF400X_READ` (R256): read the ADF400x (8x32 target 4). -/
def execAdf400xRead (o : OpFields) (s : State) : Host.Outcome State Fault Refusal :=
  accept Opc.adf400xRead o (readRequest .c8x32 4 o) s

/-- `ADF400X_WRITE` (R257): write the ADF400x (8x32 target 4). -/
def execAdf400xWrite (o : OpFields) (s : State) : Host.Outcome State Fault Refusal :=
  accept Opc.adf400xWrite o (writeRequest .c8x32 4 o) s

/-- `FASTLOCK_READ` (R258): read the fastlock profile store (8x32 target 5). -/
def execFastlockRead (o : OpFields) (s : State) : Host.Outcome State Fault Refusal :=
  accept Opc.fastlockRead o (readRequest .c8x32 5 o) s

/-- `FASTLOCK_WRITE` (R259): write the fastlock profile store (8x32 target 5). -/
def execFastlockWrite (o : OpFields) (s : State) : Host.Outcome State Fault Refusal :=
  accept Opc.fastlockWrite o (writeRequest .c8x32 5 o) s

end Sys2Proof.Machine
end

