-- ==== Sys2Proof/Machine/Ops8x8.lean ====
section
/-! DEFINITION. The operations of the 8x8 family (43_target_map.md): each accepts its descriptor with the request its rule gives. -/

namespace Sys2Proof.Machine

/-- `LMS_READ` (R228): read the LMS6 transceiver (8x8 target 0). -/
def execLmsRead (o : OpFields) (s : State) : Host.Outcome State Fault Refusal :=
  accept Opc.lmsRead o (readRequest .c8x8 0 o) s

/-- `LMS_WRITE` (R229): write the LMS6 transceiver (8x8 target 0). -/
def execLmsWrite (o : OpFields) (s : State) : Host.Outcome State Fault Refusal :=
  accept Opc.lmsWrite o (writeRequest .c8x8 0 o) s

/-- `SI5338_READ` (R230): read the SI5338 clock (8x8 target 1). -/
def execSi5338Read (o : OpFields) (s : State) : Host.Outcome State Fault Refusal :=
  accept Opc.si5338Read o (readRequest .c8x8 1 o) s

/-- `SI5338_WRITE` (R231): write the SI5338 clock (8x8 target 1). -/
def execSi5338Write (o : OpFields) (s : State) : Host.Outcome State Fault Refusal :=
  accept Opc.si5338Write o (writeRequest .c8x8 1 o) s

/-- `TAMER_GET` (R234): read the tamer mode with `pack_8x8(2, 0, CFG_TAMER_ADDR, 0)`. -/
def execTamerGet (o : OpFields) (s : State) : Host.Outcome State Fault Refusal :=
  accept Opc.tamerGet o (tamerGetRequest s.cfg) s

/-- `TAMER_SET` (R235): write the tamer mode, 0 to 2, with `pack_8x8(2, 1, CFG_TAMER_ADDR, op.data)`. -/
def execTamerSet (o : OpFields) (s : State) : Host.Outcome State Fault Refusal :=
  accept Opc.tamerSet o (tamerSetRequest s.cfg o) s

/-- `TRIG_READ_TX` (R236): read the TX trigger of the signal `sel`. -/
def execTrigReadTx (o : OpFields) (s : State) : Host.Outcome State Fault Refusal :=
  accept Opc.trigRead o (trigRequest s.cfg false 0 o) s

/-- `TRIG_READ_RX` (R236): read the RX trigger of the signal `sel`. -/
def execTrigReadRx (o : OpFields) (s : State) : Host.Outcome State Fault Refusal :=
  accept Opc.trigRead o (trigRequest s.cfg false 0 o) s

/-- `TRIG_WRITE_TX` (R237): write the TX trigger of the signal `sel`. -/
def execTrigWriteTx (o : OpFields) (s : State) : Host.Outcome State Fault Refusal :=
  accept Opc.trigWrite o (trigRequest s.cfg true o.data.toNat o) s

/-- `TRIG_WRITE_RX` (R237): write the RX trigger of the signal `sel`. -/
def execTrigWriteRx (o : OpFields) (s : State) : Host.Outcome State Fault Refusal :=
  accept Opc.trigWrite o (trigRequest s.cfg true o.data.toNat o) s

end Sys2Proof.Machine
end

