-- ==== Sys2Proof/Machine/Requests.lean ====
section
/-! DEFINITION. The meanings of the twelve request rows: a packet of a pack codec (R135 to R143, R170, R172) in `d_req`, sent by the
send step (42_dispatcher.md R191, R193). -/

namespace Sys2Proof.Machine

/-- `8X8_RD`: send `pack_8x8(target, 0, addr, data)` (R135, R193). -/
def execReq8x8Rd (target : Byte) (addr : BitVec 8) (data : BitVec 8) (s : State) : Host.Outcome State Fault Refusal :=
  sendRequest (pack .c8x8 target.toNat false addr.toNat data.toNat) s

/-- `8X8_WR`: send `pack_8x8(target, 1, addr, data)` (R135, R193). -/
def execReq8x8Wr (target : Byte) (addr : BitVec 8) (data : BitVec 8) (s : State) : Host.Outcome State Fault Refusal :=
  sendRequest (pack .c8x8 target.toNat true addr.toNat data.toNat) s

/-- `8X16_RD`: send `pack_8x16(target, 0, addr, data)` (R137, R193). -/
def execReq8x16Rd (target : Byte) (addr : BitVec 8) (data : BitVec 16) (s : State) : Host.Outcome State Fault Refusal :=
  sendRequest (pack .c8x16 target.toNat false addr.toNat data.toNat) s

/-- `8X16_WR`: send `pack_8x16(target, 1, addr, data)` (R137, R193). -/
def execReq8x16Wr (target : Byte) (addr : BitVec 8) (data : BitVec 16) (s : State) : Host.Outcome State Fault Refusal :=
  sendRequest (pack .c8x16 target.toNat true addr.toNat data.toNat) s

/-- `8X32_RD`: send `pack_8x32(target, 0, addr, data)` (R139, R193). -/
def execReq8x32Rd (target : Byte) (addr : BitVec 8) (data : BitVec 32) (s : State) : Host.Outcome State Fault Refusal :=
  sendRequest (pack .c8x32 target.toNat false addr.toNat data.toNat) s

/-- `8X32_WR`: send `pack_8x32(target, 1, addr, data)` (R139, R193). -/
def execReq8x32Wr (target : Byte) (addr : BitVec 8) (data : BitVec 32) (s : State) : Host.Outcome State Fault Refusal :=
  sendRequest (pack .c8x32 target.toNat true addr.toNat data.toNat) s

/-- `16X64_RD`: send `pack_16x64(target, 0, addr, data)` (R141, R193). -/
def execReq16x64Rd (target : Byte) (addr : BitVec 16) (data : BitVec 64) (s : State) : Host.Outcome State Fault Refusal :=
  sendRequest (pack .c16x64 target.toNat false addr.toNat data.toNat) s

/-- `16X64_WR`: send `pack_16x64(target, 1, addr, data)` (R141, R193). -/
def execReq16x64Wr (target : Byte) (addr : BitVec 16) (data : BitVec 64) (s : State) : Host.Outcome State Fault Refusal :=
  sendRequest (pack .c16x64 target.toNat true addr.toNat data.toNat) s

/-- `32X32_RD`: send `pack_32x32(target, 0, addr, data)` (R143, R193). -/
def execReq32x32Rd (target : Byte) (addr : BitVec 32) (data : BitVec 32) (s : State) : Host.Outcome State Fault Refusal :=
  sendRequest (pack .c32x32 target.toNat false addr.toNat data.toNat) s

/-- `32X32_WR`: send `pack_32x32(target, 1, addr, data)` (R143, R193). -/
def execReq32x32Wr (target : Byte) (addr : BitVec 32) (data : BitVec 32) (s : State) : Host.Outcome State Fault Refusal :=
  sendRequest (pack .c32x32 target.toNat true addr.toNat data.toNat) s

/-- `RETUNE_REQ`: send the retune request with these fields (R98, R170, R193). -/
def execReqRetune (ts : BitVec 64) (nint : BitVec 9) (nfrac : BitVec 23) (freqselB bandselB xbGpio : Byte) (s : State) :
    Host.Outcome State Fault Refusal :=
  sendRequest (retunePacket ts (nint.setWidth 16) (nfrac.setWidth 32) freqselB bandselB xbGpio) s

/-- `RETUNE2_REQ`: send the retune2 request with these fields (R100, R172, R193). -/
def execReqRetune2 (ts : BitVec 64) (niosProfile : BitVec 16) (rffeProfile portB spdt : Byte) (s : State) :
    Host.Outcome State Fault Refusal :=
  sendRequest (retune2Packet ts niosProfile rffeProfile portB spdt) s

end Sys2Proof.Machine
end

