-- ==== Sys2Proof/Machine/Responses.lean ====
section
/-! DEFINITION. The meanings of the seven response rows: a buffer with the row's magic delivered to the receive step (42_dispatcher.md
R194), unpacked by the codec of the family in flight (R136 to R144, R171, R173). -/

namespace Sys2Proof.Machine

/-- `8X8_RSP`: receive a buffer with this family's magic (R136, R194). -/
def execRsp8x8 (body : Body) (s : State) : Host.Outcome State Fault Refusal := receive (frame (widthMagic .c8x8) body) s

/-- `8X16_RSP`: receive a buffer with this family's magic (R138, R194). -/
def execRsp8x16 (body : Body) (s : State) : Host.Outcome State Fault Refusal := receive (frame (widthMagic .c8x16) body) s

/-- `8X32_RSP`: receive a buffer with this family's magic (R140, R194). -/
def execRsp8x32 (body : Body) (s : State) : Host.Outcome State Fault Refusal := receive (frame (widthMagic .c8x32) body) s

/-- `16X64_RSP`: receive a buffer with this family's magic (R142, R194). -/
def execRsp16x64 (body : Body) (s : State) : Host.Outcome State Fault Refusal := receive (frame (widthMagic .c16x64) body) s

/-- `32X32_RSP`: receive a buffer with this family's magic (R144, R194). -/
def execRsp32x32 (body : Body) (s : State) : Host.Outcome State Fault Refusal := receive (frame (widthMagic .c32x32) body) s

/-- `RETUNE_RSP`: receive a buffer with this family's magic (R171, R194). -/
def execRspRetune (body : Body) (s : State) : Host.Outcome State Fault Refusal := receive (frame (familyMagic .retune) body) s

/-- `RETUNE2_RSP`: receive a buffer with this family's magic (R173, R194). -/
def execRspRetune2 (body : Body) (s : State) : Host.Outcome State Fault Refusal := receive (frame (familyMagic .retune2) body) s

end Sys2Proof.Machine
end

