-- ==== Sys2Proof/Machine/RetuneOps.lean ====
section
/-! DEFINITION. The retune operations (44_retune_engine.md R301, R302) and `DRAIN` (42_dispatcher.md R201). -/

namespace Sys2Proof.Machine

/-- `RETUNE` (R301): schedule a frequency change, packet T. -/
def execRetune (o : OpFields) (s : State) : Host.Outcome State Fault Refusal :=
  accept Opc.retune o (retuneRequest o) s

/-- `RETUNE2` (R302): schedule a frequency change by profile, packet U. -/
def execRetune2 (o : OpFields) (s : State) : Host.Outcome State Fault Refusal :=
  accept Opc.retune2 o (retune2Request o) s

/-- `DRAIN` (R201): receive and discard one response; no packet is sent. While the block is busy the offer waits (R196). -/
def execDrain (o : OpFields) (s : State) : Host.Outcome State Fault Refusal :=
  .next
    (match s.dState with
    | .idle => acceptDrain ⟨Opc.drain, o⟩ s
    | .send | .recv => s)

end Sys2Proof.Machine
end

