-- ==== Sys2Proof/Machine/Dispatch.lean ====
section
/-! DEFINITION. The dispatch: one arm per row of opcode_table.json. -/

namespace Sys2Proof.Machine

/-- The meaning of an instruction: what the core does when it stands before the step of its kind (R192, R193, R194). -/
def exec (i : Instr) (s : State) : Host.Outcome State Fault Refusal :=
  match i with
  | .req8x8Rd target addr data => Sys2Proof.Machine.execReq8x8Rd target addr data s
  | .req8x8Wr target addr data => Sys2Proof.Machine.execReq8x8Wr target addr data s
  | .req8x16Rd target addr data => Sys2Proof.Machine.execReq8x16Rd target addr data s
  | .req8x16Wr target addr data => Sys2Proof.Machine.execReq8x16Wr target addr data s
  | .req8x32Rd target addr data => Sys2Proof.Machine.execReq8x32Rd target addr data s
  | .req8x32Wr target addr data => Sys2Proof.Machine.execReq8x32Wr target addr data s
  | .req16x64Rd target addr data => Sys2Proof.Machine.execReq16x64Rd target addr data s
  | .req16x64Wr target addr data => Sys2Proof.Machine.execReq16x64Wr target addr data s
  | .req32x32Rd target addr data => Sys2Proof.Machine.execReq32x32Rd target addr data s
  | .req32x32Wr target addr data => Sys2Proof.Machine.execReq32x32Wr target addr data s
  | .reqRetune ts nint nfrac fb bb xb => Sys2Proof.Machine.execReqRetune ts nint nfrac fb bb xb s
  | .reqRetune2 ts np rp pb sp => Sys2Proof.Machine.execReqRetune2 ts np rp pb sp s
  | .rsp8x8 body => Sys2Proof.Machine.execRsp8x8 body s
  | .rsp8x16 body => Sys2Proof.Machine.execRsp8x16 body s
  | .rsp8x32 body => Sys2Proof.Machine.execRsp8x32 body s
  | .rsp16x64 body => Sys2Proof.Machine.execRsp16x64 body s
  | .rsp32x32 body => Sys2Proof.Machine.execRsp32x32 body s
  | .rspRetune body => Sys2Proof.Machine.execRspRetune body s
  | .rspRetune2 body => Sys2Proof.Machine.execRspRetune2 body s
  | .acc8x8 o => Sys2Proof.Machine.execAcc8x8 o s
  | .acc8x16 o => Sys2Proof.Machine.execAcc8x16 o s
  | .acc8x32 o => Sys2Proof.Machine.execAcc8x32 o s
  | .acc16x64 o => Sys2Proof.Machine.execAcc16x64 o s
  | .acc32x32 o => Sys2Proof.Machine.execAcc32x32 o s
  | .lmsRead o => Sys2Proof.Machine.execLmsRead o s
  | .lmsWrite o => Sys2Proof.Machine.execLmsWrite o s
  | .si5338Read o => Sys2Proof.Machine.execSi5338Read o s
  | .si5338Write o => Sys2Proof.Machine.execSi5338Write o s
  | .tamerGet o => Sys2Proof.Machine.execTamerGet o s
  | .tamerSet o => Sys2Proof.Machine.execTamerSet o s
  | .trigReadTx o => Sys2Proof.Machine.execTrigReadTx o s
  | .trigReadRx o => Sys2Proof.Machine.execTrigReadRx o s
  | .trigWriteTx o => Sys2Proof.Machine.execTrigWriteTx o s
  | .trigWriteRx o => Sys2Proof.Machine.execTrigWriteRx o s
  | .vctcxoDacRead o => Sys2Proof.Machine.execVctcxoDacRead o s
  | .vctcxoDacWrite o => Sys2Proof.Machine.execVctcxoDacWrite o s
  | .iqcorrRead o => Sys2Proof.Machine.execIqcorrRead o s
  | .iqcorrWrite o => Sys2Proof.Machine.execIqcorrWrite o s
  | .agcDcWrite o => Sys2Proof.Machine.execAgcDcWrite o s
  | .ad56x1Read o => Sys2Proof.Machine.execAd56x1Read o s
  | .ad56x1Write o => Sys2Proof.Machine.execAd56x1Write o s
  | .ina219Read o => Sys2Proof.Machine.execIna219Read o s
  | .ina219Write o => Sys2Proof.Machine.execIna219Write o s
  | .fpgaVersionRead o => Sys2Proof.Machine.execFpgaVersionRead o s
  | .configRead o => Sys2Proof.Machine.execConfigRead o s
  | .configWrite o => Sys2Proof.Machine.execConfigWrite o s
  | .xb200Read o => Sys2Proof.Machine.execXb200Read o s
  | .xb200Write o => Sys2Proof.Machine.execXb200Write o s
  | .rffeRead o => Sys2Proof.Machine.execRffeRead o s
  | .rffeWrite o => Sys2Proof.Machine.execRffeWrite o s
  | .adf400xRead o => Sys2Proof.Machine.execAdf400xRead o s
  | .adf400xWrite o => Sys2Proof.Machine.execAdf400xWrite o s
  | .fastlockRead o => Sys2Proof.Machine.execFastlockRead o s
  | .fastlockWrite o => Sys2Proof.Machine.execFastlockWrite o s
  | .ad9361Read o => Sys2Proof.Machine.execAd9361Read o s
  | .ad9361Write o => Sys2Proof.Machine.execAd9361Write o s
  | .rficRead o => Sys2Proof.Machine.execRficRead o s
  | .rficWrite o => Sys2Proof.Machine.execRficWrite o s
  | .expgpioRead o => Sys2Proof.Machine.execExpgpioRead o s
  | .expgpioWrite o => Sys2Proof.Machine.execExpgpioWrite o s
  | .expgpioDirRead o => Sys2Proof.Machine.execExpgpioDirRead o s
  | .expgpioDirWrite o => Sys2Proof.Machine.execExpgpioDirWrite o s
  | .adiAxiRead o => Sys2Proof.Machine.execAdiAxiRead o s
  | .adiAxiWrite o => Sys2Proof.Machine.execAdiAxiWrite o s
  | .wishboneRead o => Sys2Proof.Machine.execWishboneRead o s
  | .wishboneWrite o => Sys2Proof.Machine.execWishboneWrite o s
  | .retune o => Sys2Proof.Machine.execRetune o s
  | .retune2 o => Sys2Proof.Machine.execRetune2 o s
  | .drain o => Sys2Proof.Machine.execDrain o s

end Sys2Proof.Machine
end

