-- ==== Sys2Proof/WellFormed.lean ====
section
/-! DEFINITION. Well-formed instructions. Every operand is typed at the width its row gives it, so the one check left is that
a trigger row's descriptor names the channel the row stands for (30_encoding.md R114: `_TX` is target 3, `_RX` is target 4;
R112: 0 = RX, 1 = TX). Operands outside an operation's domain (R221) are well formed: the operation itself ends them with
InvalidArgument. -/

namespace Sys2Proof

/-- `i.wellFormed`: the operands fit the row (R112, R114). -/
def Instr.wellFormed : Instr → Bool
  | .trigReadTx o => o.chan == Machine.chanTx
  | .trigReadRx o => o.chan == Machine.chanRx
  | .trigWriteTx o => o.chan == Machine.chanTx
  | .trigWriteRx o => o.chan == Machine.chanRx
  | _ => true

end Sys2Proof
end

