-- ==== Sys2Proof/Decode.lean ====
section
/-! DEFINITION. Decoding and encoding. An instruction stands on one of the block's three inputs: a descriptor on the operation
port (R112, R113), the request in `d_req` (R92 to R100), or a buffer the transport delivers (R92 to R101): the three kinds of
row of opcode_table.json (R114). `decode` is total on all three and rejects by name; `encode` writes the image of an
instruction from the same tables. Assumption log 7, 10, 11, 13, 14. -/

namespace Sys2Proof

open Machine

/-- Where an instruction stands and what its bits are. -/
inductive Image where
  /-- A descriptor on the operation port (R41, R112). -/
  | op (d : OpDesc)
  /-- A request packet in `d_req` (R31). -/
  | request (B : Packet)
  /-- A response buffer of 16 bytes delivered by `Recv` (R10). -/
  | response (B : Packet)
deriving DecidableEq, Repr

/-- Why an image is no instruction. -/
inductive DecodeError where
  /-- `opc` is not a code of R113: the accept step ends the operation with InvalidArgument (R221). -/
  | unknownOpcode (opc : BitVec 8)
  /-- A trigger descriptor whose channel is neither RX nor TX fits no row: InvalidArgument (R221, R232). -/
  | badChannel (chan : BitVec 8)
  /-- The magic byte is none of the seven of R91: FramingError in a response (R109). -/
  | badMagic (magic : Byte)
deriving DecidableEq, Repr

/-- A trigger descriptor's row, by its channel (R114, R232). -/
def decodeTrig (o : OpFields) (tx rx : OpFields → Instr) : Except DecodeError Instr :=
  if o.chan = chanTx then .ok (tx o) else if o.chan = chanRx then .ok (rx o) else .error (.badChannel o.chan)

/-- The operation a descriptor names, by its operation code (R113). -/
def decodeOp (d : OpDesc) : Except DecodeError Instr :=
  match d.opc with
  | 0x10 => .ok (.acc8x8 d.fields)
  | 0x11 => .ok (.acc8x16 d.fields)
  | 0x12 => .ok (.acc8x32 d.fields)
  | 0x13 => .ok (.acc16x64 d.fields)
  | 0x14 => .ok (.acc32x32 d.fields)
  | 0x20 => .ok (.lmsRead d.fields)
  | 0x21 => .ok (.lmsWrite d.fields)
  | 0x22 => .ok (.si5338Read d.fields)
  | 0x23 => .ok (.si5338Write d.fields)
  | 0x24 => .ok (.tamerGet d.fields)
  | 0x25 => .ok (.tamerSet d.fields)
  | 0x26 => decodeTrig d.fields .trigReadTx .trigReadRx
  | 0x27 => decodeTrig d.fields .trigWriteTx .trigWriteRx
  | 0x30 => .ok (.vctcxoDacRead d.fields)
  | 0x31 => .ok (.vctcxoDacWrite d.fields)
  | 0x32 => .ok (.iqcorrRead d.fields)
  | 0x33 => .ok (.iqcorrWrite d.fields)
  | 0x34 => .ok (.agcDcWrite d.fields)
  | 0x35 => .ok (.ad56x1Read d.fields)
  | 0x36 => .ok (.ad56x1Write d.fields)
  | 0x37 => .ok (.ina219Read d.fields)
  | 0x38 => .ok (.ina219Write d.fields)
  | 0x40 => .ok (.fpgaVersionRead d.fields)
  | 0x41 => .ok (.configRead d.fields)
  | 0x42 => .ok (.configWrite d.fields)
  | 0x43 => .ok (.xb200Read d.fields)
  | 0x44 => .ok (.xb200Write d.fields)
  | 0x45 => .ok (.rffeRead d.fields)
  | 0x46 => .ok (.rffeWrite d.fields)
  | 0x47 => .ok (.adf400xRead d.fields)
  | 0x48 => .ok (.adf400xWrite d.fields)
  | 0x49 => .ok (.fastlockRead d.fields)
  | 0x4A => .ok (.fastlockWrite d.fields)
  | 0x50 => .ok (.ad9361Read d.fields)
  | 0x51 => .ok (.ad9361Write d.fields)
  | 0x52 => .ok (.rficRead d.fields)
  | 0x53 => .ok (.rficWrite d.fields)
  | 0x60 => .ok (.expgpioRead d.fields)
  | 0x61 => .ok (.expgpioWrite d.fields)
  | 0x62 => .ok (.expgpioDirRead d.fields)
  | 0x63 => .ok (.expgpioDirWrite d.fields)
  | 0x64 => .ok (.adiAxiRead d.fields)
  | 0x65 => .ok (.adiAxiWrite d.fields)
  | 0x66 => .ok (.wishboneRead d.fields)
  | 0x67 => .ok (.wishboneWrite d.fields)
  | 0x70 => .ok (.retune d.fields)
  | 0x71 => .ok (.retune2 d.fields)
  | 0x7F => .ok (.drain d.fields)
  | c => .error (.unknownOpcode c)

/-- The address field of a width-class packet, `w` bits wide (R103, R132). -/
def addrField (c : WidthClass) (w : Nat) (B : Packet) : BitVec w := BitVec.ofNat w (memRead B (addrOff c) (addrWidth c))

/-- The data field of a width-class packet, `w` bits wide (R103, R132). -/
def dataField (c : WidthClass) (w : Nat) (B : Packet) : BitVec w := BitVec.ofNat w (memRead B (dataOff c) (dataWidth c))

/-- The PLL operands' bits that reach a retune packet: `nint[8:0]` from bytes 9 and 10 (R104). -/
def nintField (B : Packet) : BitVec 9 := BitVec.ofNat 9 (2 * (byteAt B 9).toNat + (byteAt B 10).toNat / 128)

/-- The PLL operands' bits that reach a retune packet: `nfrac[22:0]` from bytes 10 to 12 (R104). -/
def nfracField (B : Packet) : BitVec 23 :=
  BitVec.ofNat 23 (65536 * ((byteAt B 10).toNat % 128) + 256 * (byteAt B 11).toNat + (byteAt B 12).toNat)

/-- The request a packet is: the magic selects the family, then flags bit 0 selects read or write (R108). Reserved bytes and
flags bits 7:1 are not looked at (R110, R114). -/
def decodeRequest (B : Packet) : Except DecodeError Instr :=
  match byteAt B 0 with
  | 0x41 =>
    if flagWrite (byteAt B 2) then .ok (.req8x8Wr (byteAt B 1) (addrField .c8x8 8 B) (dataField .c8x8 8 B))
    else .ok (.req8x8Rd (byteAt B 1) (addrField .c8x8 8 B) (dataField .c8x8 8 B))
  | 0x42 =>
    if flagWrite (byteAt B 2) then .ok (.req8x16Wr (byteAt B 1) (addrField .c8x16 8 B) (dataField .c8x16 16 B))
    else .ok (.req8x16Rd (byteAt B 1) (addrField .c8x16 8 B) (dataField .c8x16 16 B))
  | 0x43 =>
    if flagWrite (byteAt B 2) then .ok (.req8x32Wr (byteAt B 1) (addrField .c8x32 8 B) (dataField .c8x32 32 B))
    else .ok (.req8x32Rd (byteAt B 1) (addrField .c8x32 8 B) (dataField .c8x32 32 B))
  | 0x45 =>
    if flagWrite (byteAt B 2) then .ok (.req16x64Wr (byteAt B 1) (addrField .c16x64 16 B) (dataField .c16x64 64 B))
    else .ok (.req16x64Rd (byteAt B 1) (addrField .c16x64 16 B) (dataField .c16x64 64 B))
  | 0x4B =>
    if flagWrite (byteAt B 2) then .ok (.req32x32Wr (byteAt B 1) (addrField .c32x32 32 B) (dataField .c32x32 32 B))
    else .ok (.req32x32Rd (byteAt B 1) (addrField .c32x32 32 B) (dataField .c32x32 32 B))
  | 0x54 =>
    .ok (.reqRetune (BitVec.ofNat 64 (memRead B 1 8)) (nintField B) (nfracField B) (byteAt B 13) (byteAt B 14) (byteAt B 15))
  | 0x55 =>
    .ok (.reqRetune2 (BitVec.ofNat 64 (memRead B 1 8)) (BitVec.ofNat 16 (memRead B 9 2)) (byteAt B 11) (byteAt B 12) (byteAt B 13))
  | m => .error (.badMagic m)

/-- The response a 16-byte buffer is, by its magic byte (R108, R114). -/
def decodeResponse (B : Packet) : Except DecodeError Instr :=
  match byteAt B 0 with
  | 0x41 => .ok (.rsp8x8 (bodyOf B))
  | 0x42 => .ok (.rsp8x16 (bodyOf B))
  | 0x43 => .ok (.rsp8x32 (bodyOf B))
  | 0x45 => .ok (.rsp16x64 (bodyOf B))
  | 0x4B => .ok (.rsp32x32 (bodyOf B))
  | 0x54 => .ok (.rspRetune (bodyOf B))
  | 0x55 => .ok (.rspRetune2 (bodyOf B))
  | m => .error (.badMagic m)

/-- The decoder: total on every image. -/
def decode : Image → Except DecodeError Instr
  | .op d => decodeOp d
  | .request B => decodeRequest B
  | .response B => decodeResponse B

/-- The image of an instruction (R92 to R101 for packets, R112 and R113 for descriptors). -/
def encode : Instr → Image
  | .req8x8Rd t a d => .request (pack .c8x8 t.toNat false a.toNat d.toNat)
  | .req8x8Wr t a d => .request (pack .c8x8 t.toNat true a.toNat d.toNat)
  | .req8x16Rd t a d => .request (pack .c8x16 t.toNat false a.toNat d.toNat)
  | .req8x16Wr t a d => .request (pack .c8x16 t.toNat true a.toNat d.toNat)
  | .req8x32Rd t a d => .request (pack .c8x32 t.toNat false a.toNat d.toNat)
  | .req8x32Wr t a d => .request (pack .c8x32 t.toNat true a.toNat d.toNat)
  | .req16x64Rd t a d => .request (pack .c16x64 t.toNat false a.toNat d.toNat)
  | .req16x64Wr t a d => .request (pack .c16x64 t.toNat true a.toNat d.toNat)
  | .req32x32Rd t a d => .request (pack .c32x32 t.toNat false a.toNat d.toNat)
  | .req32x32Wr t a d => .request (pack .c32x32 t.toNat true a.toNat d.toNat)
  | .reqRetune ts ni nf fb bb xb => .request (retunePacket ts (ni.setWidth 16) (nf.setWidth 32) fb bb xb)
  | .reqRetune2 ts np rp pb sp => .request (retune2Packet ts np rp pb sp)
  | .rsp8x8 b => .response (frame (widthMagic .c8x8) b)
  | .rsp8x16 b => .response (frame (widthMagic .c8x16) b)
  | .rsp8x32 b => .response (frame (widthMagic .c8x32) b)
  | .rsp16x64 b => .response (frame (widthMagic .c16x64) b)
  | .rsp32x32 b => .response (frame (widthMagic .c32x32) b)
  | .rspRetune b => .response (frame (familyMagic .retune) b)
  | .rspRetune2 b => .response (frame (familyMagic .retune2) b)
  | .acc8x8 o => .op ⟨Opc.acc8x8, o⟩
  | .acc8x16 o => .op ⟨Opc.acc8x16, o⟩
  | .acc8x32 o => .op ⟨Opc.acc8x32, o⟩
  | .acc16x64 o => .op ⟨Opc.acc16x64, o⟩
  | .acc32x32 o => .op ⟨Opc.acc32x32, o⟩
  | .lmsRead o => .op ⟨Opc.lmsRead, o⟩
  | .lmsWrite o => .op ⟨Opc.lmsWrite, o⟩
  | .si5338Read o => .op ⟨Opc.si5338Read, o⟩
  | .si5338Write o => .op ⟨Opc.si5338Write, o⟩
  | .tamerGet o => .op ⟨Opc.tamerGet, o⟩
  | .tamerSet o => .op ⟨Opc.tamerSet, o⟩
  | .trigReadTx o => .op ⟨Opc.trigRead, o⟩
  | .trigReadRx o => .op ⟨Opc.trigRead, o⟩
  | .trigWriteTx o => .op ⟨Opc.trigWrite, o⟩
  | .trigWriteRx o => .op ⟨Opc.trigWrite, o⟩
  | .vctcxoDacRead o => .op ⟨Opc.vctcxoDacRead, o⟩
  | .vctcxoDacWrite o => .op ⟨Opc.vctcxoDacWrite, o⟩
  | .iqcorrRead o => .op ⟨Opc.iqcorrRead, o⟩
  | .iqcorrWrite o => .op ⟨Opc.iqcorrWrite, o⟩
  | .agcDcWrite o => .op ⟨Opc.agcDcWrite, o⟩
  | .ad56x1Read o => .op ⟨Opc.ad56x1Read, o⟩
  | .ad56x1Write o => .op ⟨Opc.ad56x1Write, o⟩
  | .ina219Read o => .op ⟨Opc.ina219Read, o⟩
  | .ina219Write o => .op ⟨Opc.ina219Write, o⟩
  | .fpgaVersionRead o => .op ⟨Opc.fpgaVersionRead, o⟩
  | .configRead o => .op ⟨Opc.configRead, o⟩
  | .configWrite o => .op ⟨Opc.configWrite, o⟩
  | .xb200Read o => .op ⟨Opc.xb200Read, o⟩
  | .xb200Write o => .op ⟨Opc.xb200Write, o⟩
  | .rffeRead o => .op ⟨Opc.rffeRead, o⟩
  | .rffeWrite o => .op ⟨Opc.rffeWrite, o⟩
  | .adf400xRead o => .op ⟨Opc.adf400xRead, o⟩
  | .adf400xWrite o => .op ⟨Opc.adf400xWrite, o⟩
  | .fastlockRead o => .op ⟨Opc.fastlockRead, o⟩
  | .fastlockWrite o => .op ⟨Opc.fastlockWrite, o⟩
  | .ad9361Read o => .op ⟨Opc.ad9361Read, o⟩
  | .ad9361Write o => .op ⟨Opc.ad9361Write, o⟩
  | .rficRead o => .op ⟨Opc.rficRead, o⟩
  | .rficWrite o => .op ⟨Opc.rficWrite, o⟩
  | .expgpioRead o => .op ⟨Opc.expgpioRead, o⟩
  | .expgpioWrite o => .op ⟨Opc.expgpioWrite, o⟩
  | .expgpioDirRead o => .op ⟨Opc.expgpioDirRead, o⟩
  | .expgpioDirWrite o => .op ⟨Opc.expgpioDirWrite, o⟩
  | .adiAxiRead o => .op ⟨Opc.adiAxiRead, o⟩
  | .adiAxiWrite o => .op ⟨Opc.adiAxiWrite, o⟩
  | .wishboneRead o => .op ⟨Opc.wishboneRead, o⟩
  | .wishboneWrite o => .op ⟨Opc.wishboneWrite, o⟩
  | .retune o => .op ⟨Opc.retune, o⟩
  | .retune2 o => .op ⟨Opc.retune2, o⟩
  | .drain o => .op ⟨Opc.drain, o⟩

/-! The words of opcode_table.json. A row's bits are a 16-byte packet also for an operation, whose operation code is not in
the packet (R114), and several rows describe one packet. `tableImage` reads a packet as the row of most specific mask: the
named operation that sends it, else the request row it fits; see assumption log 14. -/

/-- One operation row of opcode_table.json whose mask fixes the magic, the target id and the write bit. -/
structure OpRow where
  magic : Byte
  target : Byte
  write : Bool
  opc : BitVec 8
deriving DecidableEq, Repr

/-- The operation rows that fix magic, target id and write bit (opcode_table.json, R54 to R58, R113). -/
def opRows : List OpRow :=
  [ ⟨0x41, 0, false, Opc.lmsRead⟩, ⟨0x41, 0, true, Opc.lmsWrite⟩, ⟨0x41, 1, false, Opc.si5338Read⟩,
    ⟨0x41, 1, true, Opc.si5338Write⟩, ⟨0x41, 2, false, Opc.tamerGet⟩, ⟨0x41, 2, true, Opc.tamerSet⟩,
    ⟨0x41, 3, false, Opc.trigRead⟩, ⟨0x41, 4, false, Opc.trigRead⟩, ⟨0x41, 3, true, Opc.trigWrite⟩,
    ⟨0x41, 4, true, Opc.trigWrite⟩, ⟨0x42, 0, false, Opc.vctcxoDacRead⟩, ⟨0x42, 0, true, Opc.vctcxoDacWrite⟩,
    ⟨0x42, 1, false, Opc.iqcorrRead⟩, ⟨0x42, 1, true, Opc.iqcorrWrite⟩, ⟨0x42, 2, true, Opc.agcDcWrite⟩,
    ⟨0x42, 3, false, Opc.ad56x1Read⟩, ⟨0x42, 3, true, Opc.ad56x1Write⟩, ⟨0x42, 4, false, Opc.ina219Read⟩,
    ⟨0x42, 4, true, Opc.ina219Write⟩, ⟨0x43, 0, false, Opc.fpgaVersionRead⟩, ⟨0x43, 1, false, Opc.configRead⟩,
    ⟨0x43, 1, true, Opc.configWrite⟩, ⟨0x43, 2, false, Opc.xb200Read⟩, ⟨0x43, 2, true, Opc.xb200Write⟩,
    ⟨0x43, 3, false, Opc.rffeRead⟩, ⟨0x43, 3, true, Opc.rffeWrite⟩, ⟨0x43, 4, false, Opc.adf400xRead⟩,
    ⟨0x43, 4, true, Opc.adf400xWrite⟩, ⟨0x43, 5, false, Opc.fastlockRead⟩, ⟨0x43, 5, true, Opc.fastlockWrite⟩,
    ⟨0x45, 0, false, Opc.ad9361Read⟩, ⟨0x45, 0, true, Opc.ad9361Write⟩, ⟨0x45, 1, false, Opc.rficRead⟩,
    ⟨0x45, 1, true, Opc.rficWrite⟩, ⟨0x4B, 0, false, Opc.expgpioRead⟩, ⟨0x4B, 0, true, Opc.expgpioWrite⟩,
    ⟨0x4B, 1, false, Opc.expgpioDirRead⟩, ⟨0x4B, 1, true, Opc.expgpioDirWrite⟩, ⟨0x4B, 2, false, Opc.adiAxiRead⟩,
    ⟨0x4B, 2, true, Opc.adiAxiWrite⟩, ⟨0x4B, 3, false, Opc.wishboneRead⟩, ⟨0x4B, 3, true, Opc.wishboneWrite⟩ ]

/-- The width class a magic byte names (R91). -/
def widthOfMagic : Byte → Option WidthClass
  | 0x41 => some .c8x8
  | 0x42 => some .c8x16
  | 0x43 => some .c8x32
  | 0x45 => some .c16x64
  | 0x4B => some .c32x32
  | _ => none

/-- The operands under which a named operation sends the width-class packet `B`. The trigger signal is not in a packet
(R236: it reaches it only as the OPEN address), so it is 0 there; the other selector is the IQ field's address (R240). -/
def tableFields (opc : BitVec 8) (c : WidthClass) (B : Packet) : OpFields :=
  let trig := opc == Opc.trigRead || opc == Opc.trigWrite
  { addr := addrField c 32 B
    data := dataField c 64 B
    chan := if trig && byteAt B 1 == 3 then chanTx else chanRx
    sel := if trig then 0 else byteAt B 4
    agc := #v[dataField c 16 B, 0, 0, 0, 0, 0] }

/-- The operands under which `RETUNE` sends the packet `B`, which has a channel bit set in byte 13 (R104 to R106). -/
def tableRetuneFields (B : Packet) : OpFields :=
  { chan := if (byteAt B 13).getLsbD 7 then chanTx else chanRx
    ts := BitVec.ofNat 64 (memRead B 1 8)
    nint := (nintField B).setWidth 16
    nfrac := (nfracField B).setWidth 32
    freqsel := byteAt B 13
    vcocap := byteAt B 14
    xbGpio := byteAt B 15 }

/-- The operands under which `RETUNE2` sends the packet `B` (R107). -/
def tableRetune2Fields (B : Packet) : OpFields :=
  { chan := if (byteAt B 12).getLsbD 7 then chanRx else chanTx
    ts := BitVec.ofNat 64 (memRead B 1 8)
    niosProfile := BitVec.ofNat 16 (memRead B 9 2)
    rffeProfile := byteAt B 11
    port := byteAt B 12 &&& 0x7f
    spdt := byteAt B 13 }

/-- The image a packet of opcode_table.json stands for. -/
def tableImage (B : Packet) : Option Image :=
  match widthOfMagic (byteAt B 0) with
  | some c =>
    match opRows.find? (fun r => r.magic == byteAt B 0 && r.target == byteAt B 1 && r.write == flagWrite (byteAt B 2)) with
    | some r => some (.op ⟨r.opc, tableFields r.opc c B⟩)
    | none => (decodeRequest B).toOption.map encode
  | none =>
    if B = zeroPacket then some (.op ⟨Opc.drain, {}⟩)
    else if byteAt B 0 = familyMagic .retune ∧ (byteAt B 13).toNat / 64 ≠ 0 then
      some (.op ⟨Opc.retune, tableRetuneFields B⟩)
    else if byteAt B 0 = familyMagic .retune2 then some (.op ⟨Opc.retune2, tableRetune2Fields B⟩)
    else (decodeRequest B).toOption.map encode

/-- The packet whose bits are `w`: byte `i` is bits `8i+7` to `8i` (00_scope.md R9). -/
def packetOfWord (nbits w : Nat) : Packet :=
  let v := w % 2 ^ nbits
  let b := fun i : Nat => BitVec.ofNat 8 (v / 2 ^ (8 * i))
  #v[b 0, b 1, b 2, b 3, b 4, b 5, b 6, b 7, b 8, b 9, b 10, b 11, b 12, b 13, b 14, b 15]

/-- The instruction the decoder reads from an instruction whose bits are `w`, numbered as opcode_table.json numbers them. -/
def decodeTableWord (nbits w : Nat) : Option Instr :=
  (tableImage (packetOfWord nbits w)).bind (fun m => (decode m).toOption)

end Sys2Proof
end

