-- ==== Sys2Proof/Machine/Fetch.lean ====
section
/-! DEFINITION. What a step runs: the reset input first (70_reset_and_hazards.md R350), else the input of the one step the
control state enables (42_dispatcher.md R205): the descriptor on the operation port in `D_IDLE`, the request in `d_req` in
`D_SEND`, the delivered buffer in `D_RECV`. -/

namespace Sys2Proof.Machine

/-- What a step does: run an instruction in a state whose input has been taken, or take a step that has no instruction. -/
inductive Fetched where
  /-- Run `i` in `s`. -/
  | run (i : Instr) (s : State)
  /-- The step is done: reset, a wait, a rejected input, or an outcome of the transport that carries no response. -/
  | took (s : State)
deriving DecidableEq, Repr

/-- `D_IDLE`: the descriptor on the operation port (R192). Where nothing is offered, the block waits; a descriptor that is no
instruction ends with InvalidArgument (R221). -/
def fetchOffer (s : State) : Fetched :=
  match s.env.offers with
  | [] => .took s
  | d :: rest =>
    let s := { s with env := { s.env with offers := rest } }
    match decode (.op d) with
    | .ok i => .run i s
    | .error _ => .took (acceptInvalid d s)

/-- `D_SEND`: the request in `d_req` (R193). The dispatcher does not look inside it (R191): a `d_req` that is not what a
pack codec builds is sent as it stands (assumption log 10). -/
def fetchRequest (s : State) : Fetched :=
  match decode (.request s.dReq) with
  | .ok i => if encode i = .request s.dReq then .run i s else .took (sendStep s)
  | .error _ => .took (sendStep s)

/-- `D_RECV`: the outcome of `Recv` (R194). Where the transport has not returned, the block waits (93 I8, I10). A transport
error, a drained response and a wrong length have no response instruction; a buffer whose magic is in no row goes to the
handler, which rejects it (R109). -/
def fetchResponse (s : State) : Fetched :=
  match s.env.recvs with
  | [] => .took s
  | out :: rest =>
    let s := { s with env := { s.env with recvs := rest, trace := .received s.cfg.respEp out :: s.env.trace } }
    match out with
    | .terr e => .took (transportFailed e s)
    | .ok len B =>
      if s.sOp.opc = Opc.drain then .took (drainDone s)
      else if len ≠ s.cfg.respLen then .took (lengthFailed len s)
      else
        match decode (.response B) with
        | .ok i => .run i s
        | .error _ => .took (takeResponse B s)

/-- The input of the step the control state enables (R205). -/
def fetchEnabled (s : State) : Fetched :=
  match s.dState with
  | .idle => fetchOffer s
  | .send => fetchRequest s
  | .recv => fetchResponse s

/-- The reset input has priority over every other step (R350); otherwise the enabled step is taken. -/
def fetch (s : State) : Fetched :=
  match s.env.resetIn with
  | [] => fetchEnabled s
  | false :: rest => fetchEnabled { s with env := { s.env with resetIn := rest } }
  | true :: rest => .took (resetStep { s with env := { s.env with resetIn := rest } })

/-- A model instantiated with a `CFG_RESP_LEN` other than 16 has no meaning (R26). -/
def instantiable (s : State) : Bool := s.cfg.respLen == Config.respLen

/-- `s` with the image `m` standing where the next step takes it from. A request is sent by the next step only where the
transport's outcome of that `Send` is given, so one is placed where none is (assumption log 14, 15). -/
def placeImage (m : Image) (s : State) : State :=
  match m with
  | .op d => { s with dState := .idle, env := { s.env with resetIn := [], offers := d :: s.env.offers } }
  | .request B =>
    { s with
      dState := .send
      dReq := B
      env := { s.env with resetIn := [], sends := if s.env.sends.isEmpty then [.ok] else s.env.sends } }
  | .response B =>
    { s with dState := .recv, env := { s.env with resetIn := [], recvs := .ok Config.respLen B :: s.env.recvs } }

end Sys2Proof.Machine
end

