-- ==== Sys2Proof/Machine/Step.lean ====
section
/-! DEFINITION. One step of the machine (42_dispatcher.md R205), and where an instruction is placed for the next step. -/

namespace Sys2Proof.Machine

/-- One step: reset, accept, send or receive (R192 to R194, R205, R350). A model not instantiated with a response length of
16 is refused (R26). -/
def step (s : State) : Host.Outcome State Fault Refusal :=
  if instantiable s then
    match fetch s with
    | .run i t => exec i t
    | .took t => .next t
  else .refused .responseLengthNotSixteen

/-- `s` with the instruction whose bits are `w` standing where the next step takes it from. -/
def State.withFetchWord (s : State) (nbits w : Nat) : State :=
  match tableImage (packetOfWord nbits w) with
  | some m => placeImage m s
  | none => s

end Sys2Proof.Machine
end

