-- ==== Sys2Proof/Safety.lean ====
section
/-! DEFINITION. What the statements speak of, written a second time from the spec's tables and apart from the machine's own
definitions: the byte layouts of the packets (30_encoding.md R93 to R101), the rows of opcode_table.json, the states in which
an operation has been accepted, rejected or ended, and what a sound state of the block is. -/

namespace Sys2Proof.Machine

/-- Byte `k` of a value, byte 0 the least significant. -/
def byteOf {w : Nat} (v : BitVec w) (k : Nat) : Byte := v.extractLsb' (8 * k) 8

/-- The 8x8 format (R93). -/
def layout8x8 (target flags addr data : Byte) : Packet :=
  #v[0x41, target, flags, 0, addr, data, 0, 0, 0, 0, 0, 0, 0, 0, 0, 0]

/-- The 8x16 format (R94). -/
def layout8x16 (target flags addr : Byte) (data : BitVec 16) : Packet :=
  #v[0x42, target, flags, 0, addr, byteOf data 0, byteOf data 1, 0, 0, 0, 0, 0, 0, 0, 0, 0]

/-- The 8x32 format (R95). -/
def layout8x32 (target flags addr : Byte) (data : BitVec 32) : Packet :=
  #v[0x43, target, flags, 0, addr, byteOf data 0, byteOf data 1, byteOf data 2, byteOf data 3, 0, 0, 0, 0, 0, 0, 0]

/-- The 16x64 format (R96). -/
def layout16x64 (target flags : Byte) (addr : BitVec 16) (data : BitVec 64) : Packet :=
  #v[0x45, target, flags, 0, byteOf addr 0, byteOf addr 1, byteOf data 0, byteOf data 1, byteOf data 2, byteOf data 3,
    byteOf data 4, byteOf data 5, byteOf data 6, byteOf data 7, 0, 0]

/-- The 32x32 format (R97). -/
def layout32x32 (target flags : Byte) (addr data : BitVec 32) : Packet :=
  #v[0x4B, target, flags, 0, byteOf addr 0, byteOf addr 1, byteOf addr 2, byteOf addr 3, byteOf data 0, byteOf data 1,
    byteOf data 2, byteOf data 3, 0, 0, 0, 0]

/-- The retune request format (R98), the PLL tuning word most significant byte first (R104, R61). -/
def layoutRetune (ts : BitVec 64) (pllWord : BitVec 32) (freqselB bandselB xbGpio : Byte) : Packet :=
  #v[0x54, byteOf ts 0, byteOf ts 1, byteOf ts 2, byteOf ts 3, byteOf ts 4, byteOf ts 5, byteOf ts 6, byteOf ts 7,
    byteOf pllWord 3, byteOf pllWord 2, byteOf pllWord 1, byteOf pllWord 0, freqselB, bandselB, xbGpio]

/-- The 32-bit PLL tuning word `W = (nint[8:0] << 23) | nfrac[22:0]` (R104). -/
def pllWord (nint : BitVec 16) (nfrac : BitVec 32) : BitVec 32 := nint.extractLsb' 0 9 ++ nfrac.extractLsb' 0 23

/-- The retune2 request format (R100). -/
def layoutRetune2 (ts : BitVec 64) (niosProfile : BitVec 16) (rffeProfile portB spdt : Byte) : Packet :=
  #v[0x55, byteOf ts 0, byteOf ts 1, byteOf ts 2, byteOf ts 3, byteOf ts 4, byteOf ts 5, byteOf ts 6, byteOf ts 7,
    byteOf niosProfile 0, byteOf niosProfile 1, rffeProfile, portB, spdt, 0, 0]

/-- The match and mask of a row of opcode_table.json: the first three bytes; in every row the other thirteen of both are 0. -/
structure RowPattern where
  bits : Vector Byte 3
  mask : Vector Byte 3
deriving DecidableEq, Repr

/-- The rows of opcode_table.json, copied digit by digit. -/
def rowPattern : Instr → RowPattern
  | .req8x8Rd _ _ _ => ⟨#v[0x41, 0x00, 0x00], #v[0xFF, 0x00, 0x01]⟩
  | .req8x8Wr _ _ _ => ⟨#v[0x41, 0x00, 0x01], #v[0xFF, 0x00, 0x01]⟩
  | .req8x16Rd _ _ _ => ⟨#v[0x42, 0x00, 0x00], #v[0xFF, 0x00, 0x01]⟩
  | .req8x16Wr _ _ _ => ⟨#v[0x42, 0x00, 0x01], #v[0xFF, 0x00, 0x01]⟩
  | .req8x32Rd _ _ _ => ⟨#v[0x43, 0x00, 0x00], #v[0xFF, 0x00, 0x01]⟩
  | .req8x32Wr _ _ _ => ⟨#v[0x43, 0x00, 0x01], #v[0xFF, 0x00, 0x01]⟩
  | .req16x64Rd _ _ _ => ⟨#v[0x45, 0x00, 0x00], #v[0xFF, 0x00, 0x01]⟩
  | .req16x64Wr _ _ _ => ⟨#v[0x45, 0x00, 0x01], #v[0xFF, 0x00, 0x01]⟩
  | .req32x32Rd _ _ _ => ⟨#v[0x4B, 0x00, 0x00], #v[0xFF, 0x00, 0x01]⟩
  | .req32x32Wr _ _ _ => ⟨#v[0x4B, 0x00, 0x01], #v[0xFF, 0x00, 0x01]⟩
  | .reqRetune _ _ _ _ _ _ => ⟨#v[0x54, 0x00, 0x00], #v[0xFF, 0x00, 0x00]⟩
  | .reqRetune2 _ _ _ _ _ => ⟨#v[0x55, 0x00, 0x00], #v[0xFF, 0x00, 0x00]⟩
  | .rsp8x8 _ => ⟨#v[0x41, 0x00, 0x00], #v[0xFF, 0x00, 0x00]⟩
  | .rsp8x16 _ => ⟨#v[0x42, 0x00, 0x00], #v[0xFF, 0x00, 0x00]⟩
  | .rsp8x32 _ => ⟨#v[0x43, 0x00, 0x00], #v[0xFF, 0x00, 0x00]⟩
  | .rsp16x64 _ => ⟨#v[0x45, 0x00, 0x00], #v[0xFF, 0x00, 0x00]⟩
  | .rsp32x32 _ => ⟨#v[0x4B, 0x00, 0x00], #v[0xFF, 0x00, 0x00]⟩
  | .rspRetune _ => ⟨#v[0x54, 0x00, 0x00], #v[0xFF, 0x00, 0x00]⟩
  | .rspRetune2 _ => ⟨#v[0x55, 0x00, 0x00], #v[0xFF, 0x00, 0x00]⟩
  | .acc8x8 _ => ⟨#v[0x41, 0x00, 0x00], #v[0xFF, 0x00, 0x00]⟩
  | .acc8x16 _ => ⟨#v[0x42, 0x00, 0x00], #v[0xFF, 0x00, 0x00]⟩
  | .acc8x32 _ => ⟨#v[0x43, 0x00, 0x00], #v[0xFF, 0x00, 0x00]⟩
  | .acc16x64 _ => ⟨#v[0x45, 0x00, 0x00], #v[0xFF, 0x00, 0x00]⟩
  | .acc32x32 _ => ⟨#v[0x4B, 0x00, 0x00], #v[0xFF, 0x00, 0x00]⟩
  | .lmsRead _ => ⟨#v[0x41, 0x00, 0x00], #v[0xFF, 0xFF, 0x01]⟩
  | .lmsWrite _ => ⟨#v[0x41, 0x00, 0x01], #v[0xFF, 0xFF, 0x01]⟩
  | .si5338Read _ => ⟨#v[0x41, 0x01, 0x00], #v[0xFF, 0xFF, 0x01]⟩
  | .si5338Write _ => ⟨#v[0x41, 0x01, 0x01], #v[0xFF, 0xFF, 0x01]⟩
  | .tamerGet _ => ⟨#v[0x41, 0x02, 0x00], #v[0xFF, 0xFF, 0x01]⟩
  | .tamerSet _ => ⟨#v[0x41, 0x02, 0x01], #v[0xFF, 0xFF, 0x01]⟩
  | .trigReadTx _ => ⟨#v[0x41, 0x03, 0x00], #v[0xFF, 0xFF, 0x01]⟩
  | .trigReadRx _ => ⟨#v[0x41, 0x04, 0x00], #v[0xFF, 0xFF, 0x01]⟩
  | .trigWriteTx _ => ⟨#v[0x41, 0x03, 0x01], #v[0xFF, 0xFF, 0x01]⟩
  | .trigWriteRx _ => ⟨#v[0x41, 0x04, 0x01], #v[0xFF, 0xFF, 0x01]⟩
  | .vctcxoDacRead _ => ⟨#v[0x42, 0x00, 0x00], #v[0xFF, 0xFF, 0x01]⟩
  | .vctcxoDacWrite _ => ⟨#v[0x42, 0x00, 0x01], #v[0xFF, 0xFF, 0x01]⟩
  | .iqcorrRead _ => ⟨#v[0x42, 0x01, 0x00], #v[0xFF, 0xFF, 0x01]⟩
  | .iqcorrWrite _ => ⟨#v[0x42, 0x01, 0x01], #v[0xFF, 0xFF, 0x01]⟩
  | .agcDcWrite _ => ⟨#v[0x42, 0x02, 0x01], #v[0xFF, 0xFF, 0x01]⟩
  | .ad56x1Read _ => ⟨#v[0x42, 0x03, 0x00], #v[0xFF, 0xFF, 0x01]⟩
  | .ad56x1Write _ => ⟨#v[0x42, 0x03, 0x01], #v[0xFF, 0xFF, 0x01]⟩
  | .ina219Read _ => ⟨#v[0x42, 0x04, 0x00], #v[0xFF, 0xFF, 0x01]⟩
  | .ina219Write _ => ⟨#v[0x42, 0x04, 0x01], #v[0xFF, 0xFF, 0x01]⟩
  | .fpgaVersionRead _ => ⟨#v[0x43, 0x00, 0x00], #v[0xFF, 0xFF, 0x01]⟩
  | .configRead _ => ⟨#v[0x43, 0x01, 0x00], #v[0xFF, 0xFF, 0x01]⟩
  | .configWrite _ => ⟨#v[0x43, 0x01, 0x01], #v[0xFF, 0xFF, 0x01]⟩
  | .xb200Read _ => ⟨#v[0x43, 0x02, 0x00], #v[0xFF, 0xFF, 0x01]⟩
  | .xb200Write _ => ⟨#v[0x43, 0x02, 0x01], #v[0xFF, 0xFF, 0x01]⟩
  | .rffeRead _ => ⟨#v[0x43, 0x03, 0x00], #v[0xFF, 0xFF, 0x01]⟩
  | .rffeWrite _ => ⟨#v[0x43, 0x03, 0x01], #v[0xFF, 0xFF, 0x01]⟩
  | .adf400xRead _ => ⟨#v[0x43, 0x04, 0x00], #v[0xFF, 0xFF, 0x01]⟩
  | .adf400xWrite _ => ⟨#v[0x43, 0x04, 0x01], #v[0xFF, 0xFF, 0x01]⟩
  | .fastlockRead _ => ⟨#v[0x43, 0x05, 0x00], #v[0xFF, 0xFF, 0x01]⟩
  | .fastlockWrite _ => ⟨#v[0x43, 0x05, 0x01], #v[0xFF, 0xFF, 0x01]⟩
  | .ad9361Read _ => ⟨#v[0x45, 0x00, 0x00], #v[0xFF, 0xFF, 0x01]⟩
  | .ad9361Write _ => ⟨#v[0x45, 0x00, 0x01], #v[0xFF, 0xFF, 0x01]⟩
  | .rficRead _ => ⟨#v[0x45, 0x01, 0x00], #v[0xFF, 0xFF, 0x01]⟩
  | .rficWrite _ => ⟨#v[0x45, 0x01, 0x01], #v[0xFF, 0xFF, 0x01]⟩
  | .expgpioRead _ => ⟨#v[0x4B, 0x00, 0x00], #v[0xFF, 0xFF, 0x01]⟩
  | .expgpioWrite _ => ⟨#v[0x4B, 0x00, 0x01], #v[0xFF, 0xFF, 0x01]⟩
  | .expgpioDirRead _ => ⟨#v[0x4B, 0x01, 0x00], #v[0xFF, 0xFF, 0x01]⟩
  | .expgpioDirWrite _ => ⟨#v[0x4B, 0x01, 0x01], #v[0xFF, 0xFF, 0x01]⟩
  | .adiAxiRead _ => ⟨#v[0x4B, 0x02, 0x00], #v[0xFF, 0xFF, 0x01]⟩
  | .adiAxiWrite _ => ⟨#v[0x4B, 0x02, 0x01], #v[0xFF, 0xFF, 0x01]⟩
  | .wishboneRead _ => ⟨#v[0x4B, 0x03, 0x00], #v[0xFF, 0xFF, 0x01]⟩
  | .wishboneWrite _ => ⟨#v[0x4B, 0x03, 0x01], #v[0xFF, 0xFF, 0x01]⟩
  | .retune _ => ⟨#v[0x54, 0x00, 0x00], #v[0xFF, 0x00, 0x00]⟩
  | .retune2 _ => ⟨#v[0x55, 0x00, 0x00], #v[0xFF, 0x00, 0x00]⟩
  | .drain _ => ⟨#v[0x00, 0x00, 0x00], #v[0x00, 0x00, 0x00]⟩

/-- A packet fits a row when `(P & mask) == match`, byte by byte (R114). -/
def fitsRow (p : RowPattern) (B : Packet) : Prop := ∀ k : Fin 3, B[k] &&& p.mask[k] = p.bits[k]

/-- The image is a descriptor: `i` is an operation row. -/
def isOperation (i : Instr) : Bool :=
  match encode i with
  | .op _ => true
  | .request _ | .response _ => false

/-- The 48 operation codes of R113. -/
def operationCodes : List (BitVec 8) :=
  [0x10, 0x11, 0x12, 0x13, 0x14, 0x20, 0x21, 0x22, 0x23, 0x24, 0x25, 0x26, 0x27, 0x30, 0x31, 0x32, 0x33, 0x34, 0x35, 0x36,
    0x37, 0x38, 0x40, 0x41, 0x42, 0x43, 0x44, 0x45, 0x46, 0x47, 0x48, 0x49, 0x4A, 0x50, 0x51, 0x52, 0x53, 0x60, 0x61, 0x62,
    0x63, 0x64, 0x65, 0x66, 0x67, 0x70, 0x71, 0x7F]

/-- The operations whose response is handled by `HANDLE_WC` with the default post-processing: all but `TAMER_GET`,
`AGC_DC_WRITE`, `FPGA_VERSION_READ`, `EXPGPIO_READ`, `EXPGPIO_DIR_READ`, and `DRAIN` (R222, R247, R201). -/
def plainOpc (opc : BitVec 8) : Bool := !([0x24, 0x34, 0x40, 0x60, 0x62, 0x7F] : List (BitVec 8)).contains opc

/-- The operations that end with the retune state `R_ERR` after an error of R304. -/
def retuneOpc (opc : BitVec 8) : Bool := opc == 0x70 || opc == 0x71

/-- The state after the accept step of an operation other than a retune, with its family and first request (R192). -/
def acceptedState (d : OpDesc) (fam : Family) (B : Packet) (s : State) : State :=
  { s with
    res := { s.res with valid := false }
    sOp := d
    sIdx := 0
    sFam := fam
    dReq := B
    dState := .send }

/-- The state after the accept step of a retune (R192, R301). -/
def acceptedRetune (d : OpDesc) (fam : Family) (kind : RKind) (B : Packet) (s : State) : State :=
  { acceptedState d fam B s with rState := .scheduled, rTs := d.fields.ts, rKind := kind }

/-- The state after an operation ended with these result registers: the copies, `res_valid` and `D_IDLE` (R321). -/
def endedState (r : Result) (s : State) : State :=
  { s with dState := .idle, res := { r with valid := true, rstate := s.rState, link := s.dLink } }

/-- `r_state` after an error of R304 in the operation `opc`. -/
def rStateAfterError (opc : BitVec 8) (s : State) : RState := if retuneOpc opc then .err else s.rState

/-- The state after the accept step rejected an operation (R192, R327): no exchange, status InvalidArgument, info 0. -/
def rejectedState (d : OpDesc) (s : State) : State :=
  endedState { status := .invalidArgument } { s with sOp := d, sIdx := 0, rState := rStateAfterError d.opc s }

/-- A width-class request, by its class (R92 to R97). -/
def layoutOf (c : WidthClass) (target flags : Byte) (addr : BitVec 32) (data : BitVec 64) : Packet :=
  match c with
  | .c8x8 => layout8x8 target flags (byteOf addr 0) (byteOf data 0)
  | .c8x16 => layout8x16 target flags (byteOf addr 0) (data.extractLsb' 0 16)
  | .c8x32 => layout8x32 target flags (byteOf addr 0) (data.extractLsb' 0 32)
  | .c16x64 => layout16x64 target flags (addr.extractLsb' 0 16) data
  | .c32x32 => layout32x32 target flags addr (data.extractLsb' 0 32)

/-- A row of the target register map: an operation at the caller's address. -/
structure MapRow where
  opc : BitVec 8
  cls : WidthClass
  target : Byte
  write : Bool
deriving DecidableEq, Repr

/-- The named operations at the caller's address (R113; R116 less its checks; the masked GPIO operations carry their mask as
the address, R53). -/
def targetMap : List MapRow :=
  [ ⟨0x20, .c8x8, 0, false⟩, ⟨0x21, .c8x8, 0, true⟩, ⟨0x22, .c8x8, 1, false⟩,
    ⟨0x23, .c8x8, 1, true⟩, ⟨0x30, .c8x16, 0, false⟩, ⟨0x31, .c8x16, 0, true⟩,
    ⟨0x35, .c8x16, 3, false⟩, ⟨0x36, .c8x16, 3, true⟩, ⟨0x37, .c8x16, 4, false⟩,
    ⟨0x38, .c8x16, 4, true⟩, ⟨0x41, .c8x32, 1, false⟩, ⟨0x42, .c8x32, 1, true⟩,
    ⟨0x43, .c8x32, 2, false⟩, ⟨0x44, .c8x32, 2, true⟩, ⟨0x45, .c8x32, 3, false⟩,
    ⟨0x46, .c8x32, 3, true⟩, ⟨0x47, .c8x32, 4, false⟩, ⟨0x48, .c8x32, 4, true⟩,
    ⟨0x49, .c8x32, 5, false⟩, ⟨0x4A, .c8x32, 5, true⟩, ⟨0x50, .c16x64, 0, false⟩,
    ⟨0x51, .c16x64, 0, true⟩, ⟨0x52, .c16x64, 1, false⟩, ⟨0x53, .c16x64, 1, true⟩,
    ⟨0x60, .c32x32, 0, false⟩, ⟨0x61, .c32x32, 0, true⟩, ⟨0x62, .c32x32, 1, false⟩,
    ⟨0x63, .c32x32, 1, true⟩, ⟨0x64, .c32x32, 2, false⟩, ⟨0x65, .c32x32, 2, true⟩,
    ⟨0x66, .c32x32, 3, false⟩, ⟨0x67, .c32x32, 3, true⟩ ]

/-- The flags byte of a request (R92). -/
def flagsOf (write : Bool) : Byte := if write then 1 else 0

/-- `DECODE(op)` (R221) as one table-driven function: the family and the first request of an operation, or INVALID. `DRAIN`
makes no request and is not decoded (R192). -/
def decodeSpec (cfg : Cfg) (d : OpDesc) : Option (Family × Packet) :=
  let o := d.fields
  let generic := fun c : WidthClass => some (Family.width c, layoutOf c o.target (flagsOf o.write) o.addr (if o.write then o.data else 0))
  match targetMap.find? (fun r => r.opc == d.opc) with
  | some r => some (.width r.cls, layoutOf r.cls r.target (flagsOf r.write) o.addr (if r.write then o.data else 0))
  | none =>
    match d.opc with
    | 0x10 => generic .c8x8
    | 0x11 => generic .c8x16
    | 0x12 => generic .c8x32
    | 0x13 => generic .c16x64
    | 0x14 => generic .c32x32
    | 0x24 => some (.width .c8x8, layout8x8 2 0 cfg.tamerAddr 0)
    | 0x25 => if o.data ∈ [0, 1, 2] then some (.width .c8x8, layout8x8 2 1 cfg.tamerAddr (byteOf o.data 0)) else none
    | 0x26 | 0x27 =>
      if o.chan ∈ [0, 1] ∧ o.sel ∈ [0, 1, 2] then
        let target : Byte := if o.chan = 1 then 3 else 4
        let addr := if o.sel = 0 then cfg.trigAddr[0] else if o.sel = 1 then cfg.trigAddr[1] else cfg.trigAddr[2]
        let write := d.opc == 0x27
        some (.width .c8x8, layout8x8 target (flagsOf write) addr (if write then byteOf o.data 0 else 0))
      else none
    | 0x32 => if o.sel ∈ [0, 1, 2, 3] then some (.width .c8x16, layout8x16 1 0 o.sel 0) else none
    | 0x33 => if o.sel ∈ [0, 1, 2, 3] then some (.width .c8x16, layout8x16 1 1 o.sel (o.data.extractLsb' 0 16)) else none
    | 0x34 => some (.width .c8x16, layout8x16 2 1 0 o.agc[0])
    | 0x40 => some (.width .c8x32, layout8x32 0 0 0 0)
    | 0x70 =>
      if o.chan ∈ [0, 1] then
        some (.retune, layoutRetune o.ts (pllWord o.nint o.nfrac)
          (o.freqsel ||| (if o.chan = 0 then 0x40 else 0x80))
          (o.vcocap ||| (if o.lowBand then 0x80 else 0) ||| (if o.quickTune then 0x40 else 0)) o.xbGpio)
      else none
    | 0x71 =>
      if o.chan ∈ [0, 1] then
        some (.retune2, layoutRetune2 o.ts o.niosProfile o.rffeProfile
          ((o.port &&& 0x7F) ||| (if o.port.getLsbD 7 = false ∧ o.chan = 0 then 0x80 else 0)) o.spdt)
      else none
    | _ => none

/-- The state after the accept step of an operation with this request (R192, R301). -/
def acceptedAs (d : OpDesc) (fam : Family) (B : Packet) (s : State) : State :=
  if d.opc = 0x70 then acceptedRetune d fam .retune B s
  else if d.opc = 0x71 then acceptedRetune d fam .retune2 B s
  else acceptedState d fam B s

/-- The state after `TransportError(e)` or `FramingError(info)` ended the operation in flight, with `res_idx` the index in
flight for `AGC_DC_WRITE` (R321, R322, R323). -/
def failedState (st : Status) (info : BitVec 64) (s : State) : State :=
  endedState
    { status := st
      data := info
      idx := if s.sOp.opc = 0x34 then BitVec.ofNat 3 s.sIdx.val else 0 }
    { s with rState := rStateAfterError s.sOp.opc s }

/-- `s` after one event of the transport was recorded. -/
def recorded (e : Event) (s : State) : State := { s with env := { s.env with trace := e :: s.env.trace } }

/-- `s` with the coming `Send` outcomes. -/
def withSends (l : List SendOutcome) (s : State) : State := { s with env := { s.env with sends := l } }

/-- `s` with the coming `Recv` outcomes. -/
def withRecvs (l : List RecvOutcome) (s : State) : State := { s with env := { s.env with recvs := l } }

/-- `s` with the operations still offered. -/
def withOffers (l : List OpDesc) (s : State) : State := { s with env := { s.env with offers := l } }

/-- A step in which the reset input is not asserted, in a model with a response length of 16. -/
def running (s : State) : Prop := s.cfg.respLen = 16 ∧ s.env.resetIn = []

/-- The data of a well-framed response of class `c`, as the result port widens it (R11, R131). -/
def dataOf (c : WidthClass) (B : Packet) : BitVec 64 :=
  match c with
  | .c8x8 => (byteAt B 5).setWidth 64
  | .c8x16 => (byteAt B 6 ++ byteAt B 5).setWidth 64
  | .c8x32 => (byteAt B 8 ++ byteAt B 7 ++ byteAt B 6 ++ byteAt B 5).setWidth 64
  | .c16x64 =>
    byteAt B 13 ++ byteAt B 12 ++ byteAt B 11 ++ byteAt B 10 ++ byteAt B 9 ++ byteAt B 8 ++ byteAt B 7 ++ byteAt B 6
  | .c32x32 => (byteAt B 11 ++ byteAt B 10 ++ byteAt B 9 ++ byteAt B 8).setWidth 64

/-- The duration of a retune or retune2 response: bytes 1 to 8, little-endian (R99, R101). -/
def durationOf (B : Packet) : BitVec 64 :=
  byteAt B 8 ++ byteAt B 7 ++ byteAt B 6 ++ byteAt B 5 ++ byteAt B 4 ++ byteAt B 3 ++ byteAt B 2 ++ byteAt B 1

/-- Bit 1 of a byte. -/
def bit1 (b : Byte) : Bool := b.getLsbD 1

/-- Bit 0 of a byte. -/
def bit0 (b : Byte) : Bool := b.getLsbD 0

/-- What the registers of a sound block say of each other in every state a run reaches. -/
structure Coherent (s : State) : Prop where
  /-- While an operation is in flight no result is valid (R39, R358). -/
  busy_no_result : s.dState ≠ .idle → s.res.valid = false
  /-- `R_SCHEDULED` is exactly 'a retune is in flight' (R300). -/
  scheduled_iff : s.rState = .scheduled ↔ s.dState ≠ .idle ∧ retuneOpc s.sOp.opc = true
  /-- A retune in flight is interpreted by its own timestamp, kind and codec (R38, R309). -/
  retune_in_flight : s.rState = .scheduled →
    s.rTs = s.sOp.fields.ts ∧
      ((s.sOp.opc = 0x70 ∧ s.rKind = .retune ∧ s.sFam = .retune) ∨ (s.sOp.opc = 0x71 ∧ s.rKind = .retune2 ∧ s.sFam = .retune2))
  /-- The family in flight is the operation's (R113, R192). -/
  family_of_op : s.dState ≠ .idle → s.sOp.opc ≠ 0x7F →
    (s.sFam = .retune ↔ s.sOp.opc = 0x70) ∧ (s.sFam = .retune2 ↔ s.sOp.opc = 0x71)
  /-- An idle block's result shows `r_state` and `d_link` as they are (R39). -/
  idle_copies : s.dState = .idle → s.res.rstate = s.rState ∧ s.res.link = s.dLink
  /-- `s_idx` is 0 for every operation but `AGC_DC_WRITE` (R36). -/
  idx_zero : s.sOp.opc ≠ 0x34 → s.sIdx = 0
  /-- `AGC_DC_WRITE` in flight has request `s_idx` in `d_req`, of family 8x16 (R247). -/
  agc_in_flight : s.dState ≠ .idle → s.sOp.opc = 0x34 →
    s.sFam = .width .c8x16 ∧ s.dReq = layout8x16 2 1 (BitVec.ofNat 8 s.sIdx.val) s.sOp.fields.agc[s.sIdx]
  /-- A request to be sent is one a pack codec builds for the family in flight, never a drain's (R191, R201). -/
  request_canonical : s.dState = .send →
    s.sOp.opc ≠ 0x7F ∧ byteAt s.dReq 0 = familyMagic s.sFam ∧ ∃ i, encode i = .request s.dReq

/-- The newest transport call was a `Send` that succeeded: its response is not received yet. -/
def awaitingResponse : List Event → Bool
  | .sent _ _ .ok :: _ => true
  | _ => false

/-- Strict alternation, the newest event first: no `Send` while the response of an earlier one is awaited (R70, R357). -/
def alternates : List Event → Bool
  | [] => true
  | .sent _ _ _ :: rest => !awaitingResponse rest && alternates rest
  | .received _ _ :: rest => alternates rest
  | .reset :: rest => alternates rest

/-- The alternation kept so far, and no response awaited outside `D_RECV` (R70, R72, R357). -/
def LinkInOrder (s : State) : Prop :=
  alternates s.env.trace = true ∧ (s.dState ≠ .recv → awaitingResponse s.env.trace = false)

/-- The transitions of `r_state` that the table of R300 allows in one step. -/
def retuneMove (s t : State) : Prop :=
  t.rState = s.rState
    ∨ (t.rState = .scheduled ∧ s.dState = .idle ∧ retuneOpc t.sOp.opc = true)
    ∨ (t.rState = .err ∧ s.dState = .idle ∧ retuneOpc t.sOp.opc = true ∧ t.res.status = .invalidArgument)
    ∨ (s.rState = .scheduled ∧ s.dState = .recv ∧ t.rState = .done ∧ t.res.status = .ok)
    ∨ (s.rState = .scheduled ∧ s.dState = .recv ∧ t.rState = .fail ∧ s.rTs = s.cfg.retuneNow ∧ t.res.status = .tuneFailure)
    ∨ (s.rState = .scheduled ∧ s.dState = .recv ∧ t.rState = .qfull ∧ s.rTs ≠ s.cfg.retuneNow ∧ t.res.status = .queueFull)
    ∨ (s.rState = .scheduled ∧ s.dState ≠ .idle ∧ t.rState = .err ∧ t.res.status = .transportError)
    ∨ (s.rState = .scheduled ∧ s.dState = .recv ∧ t.rState = .err ∧ t.res.status = .framingError)

end Sys2Proof.Machine
end

