-- ==== Sys2Proof/Certificates/Slice0/Obligations.lean ====
section
/-! DEFINITION. The statements for the provers. `byteAt`, `pack`, `exec`, `step` are the machine's; the layouts, the row
patterns and the named states are Safety.lean's. Each docstring names the rules of spec/ the statement formalises. -/

open Sys2Proof Sys2Proof.Machine

/-! ## The codecs -/

/-- R130, R135, R137, R139, R141, R143: every pack puts magic, target, write flag, address and data where the format has them,
each truncated to its field, and zero everywhere else; with the rules' examples. -/
def Obligations.PackLaysOutEveryClass : Prop :=
  (∀ (t a d : Nat) (w : Bool),
    pack .c8x8 t w a d = layout8x8 (BitVec.ofNat 8 t) (flagsOf w) (BitVec.ofNat 8 a) (BitVec.ofNat 8 d) ∧
    pack .c8x16 t w a d = layout8x16 (BitVec.ofNat 8 t) (flagsOf w) (BitVec.ofNat 8 a) (BitVec.ofNat 16 d) ∧
    pack .c8x32 t w a d = layout8x32 (BitVec.ofNat 8 t) (flagsOf w) (BitVec.ofNat 8 a) (BitVec.ofNat 32 d) ∧
    pack .c16x64 t w a d = layout16x64 (BitVec.ofNat 8 t) (flagsOf w) (BitVec.ofNat 16 a) (BitVec.ofNat 64 d) ∧
    pack .c32x32 t w a d = layout32x32 (BitVec.ofNat 8 t) (flagsOf w) (BitVec.ofNat 32 a) (BitVec.ofNat 32 d)) ∧
  pack .c8x8 0 true 0x10 0x3F = #v[0x41, 0, 1, 0, 0x10, 0x3F, 0, 0, 0, 0, 0, 0, 0, 0, 0, 0] ∧
  pack .c8x16 1 true 2 0x0100 = #v[0x42, 1, 1, 0, 2, 0, 1, 0, 0, 0, 0, 0, 0, 0, 0, 0] ∧
  pack .c8x32 0 false 0 0 = #v[0x43, 0, 0, 0, 0, 0, 0, 0, 0, 0, 0, 0, 0, 0, 0, 0] ∧
  pack .c16x64 0 true 0x1234 0x1122334455667788 =
    #v[0x45, 0, 1, 0, 0x34, 0x12, 0x88, 0x77, 0x66, 0x55, 0x44, 0x33, 0x22, 0x11, 0, 0] ∧
  pack .c32x32 0 true 0xFFFFFFFF 1 = #v[0x4B, 0, 1, 0, 0xFF, 0xFF, 0xFF, 0xFF, 1, 0, 0, 0, 0, 0, 0, 0]

/-- R131: every unpack rejects a foreign magic with that byte, and otherwise reads target, write bit, address, data and bit 1
at their places and nothing else; success is bit 1 for 8x32, 16x64 and 32x32, and nothing is said of it for 8x8 and 8x16, where
the rule leaves it UNDEFINED. -/
def Obligations.UnpackReadsEveryClass : Prop :=
  ∀ B : Packet,
    (∀ c, byteAt B 0 ≠ widthMagic c → unpack c B = .error (byteAt B 0)) ∧
    (byteAt B 0 = 0x41 → ∃ u, unpack .c8x8 B = .ok u ∧ u.target = byteAt B 1 ∧ u.write = bit0 (byteAt B 2) ∧
      u.address = (byteAt B 4).setWidth 32 ∧ u.data = (byteAt B 5).setWidth 64 ∧ u.flag1 = bit1 (byteAt B 2)) ∧
    (byteAt B 0 = 0x42 → ∃ u, unpack .c8x16 B = .ok u ∧ u.target = byteAt B 1 ∧ u.write = bit0 (byteAt B 2) ∧
      u.address = (byteAt B 4).setWidth 32 ∧ u.data = (byteAt B 6 ++ byteAt B 5).setWidth 64 ∧ u.flag1 = bit1 (byteAt B 2)) ∧
    (byteAt B 0 = 0x43 → unpack .c8x32 B = .ok ⟨byteAt B 1, bit0 (byteAt B 2), (byteAt B 4).setWidth 32,
      (byteAt B 8 ++ byteAt B 7 ++ byteAt B 6 ++ byteAt B 5).setWidth 64, some (bit1 (byteAt B 2)), bit1 (byteAt B 2)⟩) ∧
    (byteAt B 0 = 0x45 → unpack .c16x64 B = .ok ⟨byteAt B 1, bit0 (byteAt B 2), (byteAt B 5 ++ byteAt B 4).setWidth 32,
      byteAt B 13 ++ byteAt B 12 ++ byteAt B 11 ++ byteAt B 10 ++ byteAt B 9 ++ byteAt B 8 ++ byteAt B 7 ++ byteAt B 6,
      some (bit1 (byteAt B 2)), bit1 (byteAt B 2)⟩) ∧
    (byteAt B 0 = 0x4B → unpack .c32x32 B = .ok ⟨byteAt B 1, bit0 (byteAt B 2),
      byteAt B 7 ++ byteAt B 6 ++ byteAt B 5 ++ byteAt B 4,
      (byteAt B 11 ++ byteAt B 10 ++ byteAt B 9 ++ byteAt B 8).setWidth 64, some (bit1 (byteAt B 2)), bit1 (byteAt B 2)⟩)

/-- R145: the round trip law, with the flag it fixes. -/
def Obligations.UnpackOfPackGivesTheTuple : Prop :=
  ∀ (c : WidthClass) (t a d : Nat) (w : Bool),
    t < 2 ^ 8 → a < 2 ^ (8 * addrWidth c) → d < 2 ^ (8 * dataWidth c) →
    ∃ u, unpack c (pack c t w a d) = .ok u ∧ u.target.toNat = t ∧ u.write = w ∧ u.address.toNat = a ∧ u.data.toNat = d ∧
      u.flag1 = false ∧ (c = .c8x32 ∨ c = .c16x64 ∨ c = .c32x32 → u.success = some false)

/-- R146: the magic corruption law. -/
def Obligations.CorruptedMagicIsRejected : Prop :=
  ∀ (c : WidthClass) (B : Packet) (m : Byte), byteAt B 0 = widthMagic c → m ≠ widthMagic c →
    unpack c (setByteAt B 0 m) = .error m ∧ verdict c (setByteAt B 0 m) = .framingError

/-- R147: the truncation law. -/
def Obligations.PackTruncatesItsOperands : Prop :=
  ∀ (c : WidthClass) (t a d : Nat) (w : Bool),
    pack c t w a d = pack c (t % 2 ^ 8) w (a % 2 ^ (8 * addrWidth c)) (d % 2 ^ (8 * dataWidth c))

/-- R134: the verdict of a width-class response, and every single-exchange width-class operation ends with it; after an OK
verdict `TAMER_GET` alone may still report UnexpectedValue (R234). -/
def Obligations.VerdictDecidesWidthOperations : Prop :=
  ∀ (c : WidthClass) (B : Packet),
    (verdict c B =
      if byteAt B 0 ≠ widthMagic c then .framingError
      else if (c = .c8x32 ∨ c = .c16x64 ∨ c = .c32x32) ∧ bit1 (byteAt B 2) = false then .operationFailed
      else .ok) ∧
    ∀ s : State, s.dState = .recv → s.sFam = .width c → s.sOp.opc ≠ 0x34 → s.sOp.opc ≠ 0x7F →
      ∃ t, receive B s = .next t ∧ t.dState = .idle ∧ t.res.valid = true ∧
        t.res.status = (if s.sOp.opc = 0x24 ∧ verdict c B = .ok ∧ 2 < (dataOf c B).toNat then .unexpectedValue else verdict c B)

/-- R10, R103: what `MemWrite` puts into a field `MemRead` gives back modulo the field's width, and no other byte moves. -/
def Obligations.FieldReadsBackWhatWasWritten : Prop :=
  ∀ (B : Packet) (off n v : Nat), off + n ≤ 16 →
    memRead (memWrite B off n v) off n = v % 2 ^ (8 * n) ∧
    ∀ j, (j < off ∨ off + n ≤ j) → byteAt (memWrite B off n v) j = byteAt B j

/-- R104: the four bytes of the PLL tuning word, the equivalent 32-bit form, and that only `nint[8:0]` and `nfrac[22:0]` reach
the packet. -/
def Obligations.PllWordIsPackedMostSignificantFirst : Prop :=
  ∀ (chan freqsel vcocap xb : Byte) (ts : BitVec 64) (nint : BitVec 16) (nfrac : BitVec 32) (lb qt : Bool),
    let P := packRetune chan ts nint nfrac freqsel vcocap lb qt xb
    let W : BitVec 32 := ((nint &&& 0x1FF).setWidth 32 <<< 23) ||| (nfrac &&& 0x7FFFFF)
    byteAt P 9 = (nint >>> 1).setWidth 8 ∧
    byteAt P 10 = ((nint &&& 1).setWidth 8 <<< 7) ||| (((nfrac >>> 16) &&& 0x7f).setWidth 8) ∧
    byteAt P 11 = ((nfrac >>> 8) &&& 0xff).setWidth 8 ∧
    byteAt P 12 = (nfrac &&& 0xff).setWidth 8 ∧
    byteAt P 9 ++ byteAt P 10 ++ byteAt P 11 ++ byteAt P 12 = W ∧
    ∀ (nint' : BitVec 16) (nfrac' : BitVec 32), nint' &&& 0x1FF = nint &&& 0x1FF → nfrac' &&& 0x7FFFFF = nfrac &&& 0x7FFFFF →
      packRetune chan ts nint' nfrac' freqsel vcocap lb qt xb = P

/-- R105, R106: the freqsel and bandsel bytes, with the bits the caller's values share with the channel and band flags. -/
def Obligations.FreqselAndBandselAreOredUnmasked : Prop :=
  ∀ (freqsel vcocap xb : Byte) (ts : BitVec 64) (nint : BitVec 16) (nfrac : BitVec 32) (lb qt : Bool),
    let rx := packRetune 0 ts nint nfrac freqsel vcocap lb qt xb
    let tx := packRetune 1 ts nint nfrac freqsel vcocap lb qt xb
    byteAt rx 13 = freqsel ||| 0x40 ∧ byteAt tx 13 = freqsel ||| 0x80 ∧
    (freqsel.getLsbD 7 = true → (byteAt rx 13).getLsbD 7 = true) ∧ (freqsel.getLsbD 6 = true → (byteAt tx 13).getLsbD 6 = true) ∧
    byteAt rx 14 = vcocap ||| (if lb then 0x80 else 0) ||| (if qt then 0x40 else 0) ∧ byteAt tx 14 = byteAt rx 14

/-- R107: the port byte: bits 6:0 are the caller's, and the truth table of bit 7. -/
def Obligations.PortByteFollowsItsTruthTable : Prop :=
  ∀ (chan rffe port spdt : Byte) (ts : BitVec 64) (np : BitVec 16), (chan = 0 ∨ chan = 1) →
    let b := byteAt (packRetune2 chan ts np rffe port spdt) 12
    b &&& 0x7F = port &&& 0x7F ∧
    (port.getLsbD 7 = false → chan = 0 → b.getLsbD 7 = true) ∧
    (port.getLsbD 7 = false → chan = 1 → b.getLsbD 7 = false) ∧
    (port.getLsbD 7 = true → b.getLsbD 7 = false)

/-- R170, R172: the whole retune and retune2 requests, with the rules' examples. -/
def Obligations.RetuneRequestsAreLaidOut : Prop :=
  (∀ (o : OpFields), (o.chan = 0 ∨ o.chan = 1) →
    packRetune o.chan o.ts o.nint o.nfrac o.freqsel o.vcocap o.lowBand o.quickTune o.xbGpio =
      layoutRetune o.ts (pllWord o.nint o.nfrac) (o.freqsel ||| (if o.chan = 0 then 0x40 else 0x80))
        (o.vcocap ||| (if o.lowBand then 0x80 else 0) ||| (if o.quickTune then 0x40 else 0)) o.xbGpio ∧
    packRetune2 o.chan o.ts o.niosProfile o.rffeProfile o.port o.spdt =
      layoutRetune2 o.ts o.niosProfile o.rffeProfile
        ((o.port &&& 0x7F) ||| (if o.port.getLsbD 7 = false ∧ o.chan = 0 then 0x80 else 0)) o.spdt) ∧
  packRetune 0 0x0102030405060708 0x1A5 0x123456 0x2C 0x15 true false 0x03 =
    #v[0x54, 0x08, 0x07, 0x06, 0x05, 0x04, 0x03, 0x02, 0x01, 0xD2, 0x92, 0x34, 0x56, 0x6C, 0x95, 0x03] ∧
  packRetune2 0 0 0x0203 0x07 0x05 0x11 = #v[0x55, 0, 0, 0, 0, 0, 0, 0, 0, 0x03, 0x02, 0x07, 0x85, 0x11, 0, 0]

/-- R171, R173: the retune and retune2 replies are read at their places, the success bit in byte 10 or byte 9, with the rules'
examples. -/
def Obligations.RetuneRepliesAreRead : Prop :=
  (∀ B : Packet,
    unpackRetune B = (if byteAt B 0 ≠ 0x54 then .error (byteAt B 0) else .ok ⟨durationOf B, byteAt B 9, bit1 (byteAt B 10)⟩) ∧
    (unpackRetune2 B).map (fun u => (u.duration, u.success)) =
      (if byteAt B 0 ≠ 0x55 then .error (byteAt B 0) else .ok (durationOf B, bit1 (byteAt B 9)))) ∧
  unpackRetune #v[0x54, 0xE8, 0x03, 0, 0, 0, 0, 0, 0, 0x15, 0x02, 0, 0, 0, 0, 0] = .ok ⟨1000, 0x15, true⟩ ∧
  (unpackRetune2 #v[0x55, 0, 0x01, 0, 0, 0, 0, 0, 0, 0x02, 0, 0, 0, 0, 0, 0]).map (fun u => (u.duration, u.success)) = .ok (256, true)

/-- R174, R176: the interpreter, and the verdicts that apply it after the magic check. -/
def Obligations.RetuneVerdictsInterpretTheSuccessBit : Prop :=
  (∀ (ts now : BitVec 64),
    interpretRetune true ts now = .ok ∧ interpretRetune false now now = .tuneFailure ∧
    (ts ≠ now → interpretRetune false ts now = .queueFull)) ∧
  ∀ (B : Packet) (ts now : BitVec 64),
    verdictRetune B ts now =
      (if byteAt B 0 ≠ 0x54 then .framingError else interpretRetune (bit1 (byteAt B 10)) ts now) ∧
    verdictRetune2 B ts now =
      (if byteAt B 0 ≠ 0x55 then .framingError else interpretRetune (bit1 (byteAt B 9)) ts now)

/-! ## Decoding -/

/-- Decode and encode agree on every well-formed instruction, whatever its operands (R92 to R101, R112, R113). -/
def Obligations.DecodeOfEncodeIsTheInstruction : Prop :=
  ∀ i : Instr, i.wellFormed = true → decode (encode i) = .ok i

/-- A response and a descriptor each have one reading: what decodes is the image it was read from, no bit dropped; and what
is refused is a magic of no family, an unknown operation code, or a trigger with no channel (R108, R109, R113). The model's
choice: that no bit is dropped rests on the operands of assumption log 12 (the whole descriptor, the 15 bytes after the magic);
that the decoder itself refuses exactly these descriptors, a bad trigger channel among them, while a bad retune channel, trigger
signal, IQ field or tamer mode decodes and is ended by its accept step, rests on logs 11 and 13. -/
def Obligations.DecodedImagesEncodeBack : Prop :=
  (∀ (B : Packet) (i : Instr), decode (.response B) = .ok i → encode i = .response B) ∧
  (∀ B : Packet, (∃ e, decode (.response B) = .error e) ↔
    byteAt B 0 ∉ ([0x41, 0x42, 0x43, 0x45, 0x4B, 0x54, 0x55] : List Byte)) ∧
  (∀ (d : OpDesc) (i : Instr), decode (.op d) = .ok i → encode i = .op d ∧ i.wellFormed = true) ∧
  ∀ d : OpDesc, (∃ e, decode (.op d) = .error e) ↔
    d.opc ∉ operationCodes ∨ (d.opc ∈ ([0x26, 0x27] : List (BitVec 8)) ∧ d.fields.chan ∉ ([0, 1] : List (BitVec 8)))

/-- Every packet with one of the seven magics decodes as a request, each operand from its own bytes (R93 to R98, R100, R104,
R108), and no other packet does; the reading encodes to a packet of the same magic that decodes alike. That the reserved bytes
and flags bits 7:1 of a request are not looked at is the model's reading, assumption log 10; that a retune request's operands are
the packet's fields, assumption log 25. -/
def Obligations.RequestsDecodeToTheirFields : Prop :=
  (∀ B : Packet,
    let b := byteAt B
    let write := bit0 (b 2)
    let ts := b 8 ++ b 7 ++ b 6 ++ b 5 ++ b 4 ++ b 3 ++ b 2 ++ b 1
    let data16 := b 6 ++ b 5
    let data32 := b 8 ++ b 7 ++ b 6 ++ b 5
    let data64 := b 13 ++ b 12 ++ b 11 ++ b 10 ++ b 9 ++ b 8 ++ b 7 ++ b 6
    let addr32 := b 7 ++ b 6 ++ b 5 ++ b 4
    let value32 := b 11 ++ b 10 ++ b 9 ++ b 8
    (b 0 = 0x41 → decode (.request B) = .ok (if write then .req8x8Wr (b 1) (b 4) (b 5) else .req8x8Rd (b 1) (b 4) (b 5))) ∧
    (b 0 = 0x42 → decode (.request B) = .ok (if write then .req8x16Wr (b 1) (b 4) data16 else .req8x16Rd (b 1) (b 4) data16)) ∧
    (b 0 = 0x43 → decode (.request B) = .ok (if write then .req8x32Wr (b 1) (b 4) data32 else .req8x32Rd (b 1) (b 4) data32)) ∧
    (b 0 = 0x45 → decode (.request B) =
      .ok (if write then .req16x64Wr (b 1) (b 5 ++ b 4) data64 else .req16x64Rd (b 1) (b 5 ++ b 4) data64)) ∧
    (b 0 = 0x4B → decode (.request B) =
      .ok (if write then .req32x32Wr (b 1) addr32 value32 else .req32x32Rd (b 1) addr32 value32)) ∧
    (b 0 = 0x54 → decode (.request B) = .ok (.reqRetune ts (b 9 ++ (b 10).extractLsb' 7 1)
      ((b 10).extractLsb' 0 7 ++ b 11 ++ b 12) (b 13) (b 14) (b 15))) ∧
    (b 0 = 0x55 → decode (.request B) = .ok (.reqRetune2 ts (b 10 ++ b 9) (b 11) (b 12) (b 13))) ∧
    ((∃ e, decode (.request B) = .error e) ↔ b 0 ∉ ([0x41, 0x42, 0x43, 0x45, 0x4B, 0x54, 0x55] : List Byte))) ∧
  ∀ (B : Packet) (i : Instr), decode (.request B) = .ok i →
    ∃ C, encode i = .request C ∧ byteAt C 0 = byteAt B 0 ∧ decode (.request C) = .ok i

/-- R114: the packet of every request and response row fits the match and mask of its row in opcode_table.json, and so does
the first request of every operation that is accepted. -/
def Obligations.PacketsFitTheirTableRow : Prop :=
  (∀ (i : Instr) (B : Packet), encode i = .request B ∨ encode i = .response B → fitsRow (rowPattern i) B) ∧
  ∀ (i : Instr) (s t : State), isOperation i = true → i.wellFormed = true → s.dState = .idle → exec i s = .next t →
    t.dState = .send → fitsRow (rowPattern i) t.dReq

/-- A few words written out from the formats decode to the instructions they stand for. -/
def Obligations.SampleWordsDecode : Prop :=
  decode (.request #v[0x41, 1, 1, 0, 0x20, 0x55, 0, 0, 0, 0, 0, 0, 0, 0, 0, 0]) = .ok (.req8x8Wr 1 0x20 0x55) ∧
  decode (.request #v[0x45, 1, 0, 0, 0xDE, 0xBC, 0, 0, 0, 0, 0, 0, 0, 0, 0, 0]) = .ok (.req16x64Rd 1 0xBCDE 0) ∧
  decode (.request #v[0x54, 0x10, 0, 0, 0, 0, 0, 0, 0, 0x81, 0, 0xAB, 0xCD, 0x41, 0x60, 0]) =
    .ok (.reqRetune 0x10 0x102 0xABCD 0x41 0x60 0) ∧
  decode (.response #v[0x43, 0, 2, 0, 0, 4, 0, 2, 0, 0, 0, 0, 0, 0, 0, 0]) =
    .ok (.rsp8x32 #v[0, 2, 0, 0, 4, 0, 2, 0, 0, 0, 0, 0, 0, 0, 0]) ∧
  decode (.op ⟨0x26, { chan := 1, sel := 2 }⟩) = .ok (.trigReadTx { chan := 1, sel := 2 }) ∧
  decode (.op ⟨0x28, {}⟩) = .error (.unknownOpcode 0x28)

/-! ## The accept step: one statement per group of operations. The next state is spelled out whole, so each is also the frame
of its operations: what `acceptedState` does not name is unchanged, the environment among it. -/

/-- R223 to R227: the generic accesses; a read carries data 0. -/
def Obligations.GenericAccessesAreAccepted : Prop :=
  ∀ (o : OpFields) (s : State), s.dState = .idle →
    let d : BitVec 64 := if o.write then o.data else 0
    exec (.acc8x8 o) s = .next (acceptedState ⟨0x10, o⟩ (.width .c8x8)
      (layout8x8 o.target (flagsOf o.write) (byteOf o.addr 0) (byteOf d 0)) s) ∧
    exec (.acc8x16 o) s = .next (acceptedState ⟨0x11, o⟩ (.width .c8x16)
      (layout8x16 o.target (flagsOf o.write) (byteOf o.addr 0) (d.extractLsb' 0 16)) s) ∧
    exec (.acc8x32 o) s = .next (acceptedState ⟨0x12, o⟩ (.width .c8x32)
      (layout8x32 o.target (flagsOf o.write) (byteOf o.addr 0) (d.extractLsb' 0 32)) s) ∧
    exec (.acc16x64 o) s = .next (acceptedState ⟨0x13, o⟩ (.width .c16x64)
      (layout16x64 o.target (flagsOf o.write) (o.addr.extractLsb' 0 16) d) s) ∧
    exec (.acc32x32 o) s = .next (acceptedState ⟨0x14, o⟩ (.width .c32x32)
      (layout32x32 o.target (flagsOf o.write) o.addr (d.extractLsb' 0 32)) s)

/-- R228 to R231: the LMS6 and SI5338 accesses. -/
def Obligations.LmsAndSi5338AreAccepted : Prop :=
  ∀ (o : OpFields) (s : State), s.dState = .idle →
    exec (.lmsRead o) s = .next (acceptedState ⟨0x20, o⟩ (.width .c8x8) (layout8x8 0 0 (byteOf o.addr 0) 0) s) ∧
    exec (.lmsWrite o) s =
      .next (acceptedState ⟨0x21, o⟩ (.width .c8x8) (layout8x8 0 1 (byteOf o.addr 0) (byteOf o.data 0)) s) ∧
    exec (.si5338Read o) s = .next (acceptedState ⟨0x22, o⟩ (.width .c8x8) (layout8x8 1 0 (byteOf o.addr 0) 0) s) ∧
    exec (.si5338Write o) s =
      .next (acceptedState ⟨0x23, o⟩ (.width .c8x8) (layout8x8 1 1 (byteOf o.addr 0) (byteOf o.data 0)) s)

/-- R234, R235: the tamer operations; a mode above 2, read as the full 64-bit operand, is rejected with no exchange. -/
def Obligations.TamerOperationsAreAcceptedOrRejected : Prop :=
  ∀ (o : OpFields) (s : State), s.dState = .idle →
    exec (.tamerGet o) s = .next (acceptedState ⟨0x24, o⟩ (.width .c8x8) (layout8x8 2 0 s.cfg.tamerAddr 0) s) ∧
    exec (.tamerSet o) s = .next
      (if o.data = 0 ∨ o.data = 1 ∨ o.data = 2 then
        acceptedState ⟨0x25, o⟩ (.width .c8x8) (layout8x8 2 1 s.cfg.tamerAddr (byteOf o.data 0)) s
      else rejectedState ⟨0x25, o⟩ s)

/-- R232, R236, R237: the trigger operations: target 3 for TX and 4 for RX, the address configured for the signal; a signal
above 2 is rejected with no exchange. -/
def Obligations.TriggerOperationsAreAcceptedOrRejected : Prop :=
  ∀ (o : OpFields) (s : State), s.dState = .idle →
    (∀ k : Fin 3, o.sel = BitVec.ofNat 8 k.val →
      (o.chan = 1 →
        exec (.trigReadTx o) s = .next (acceptedState ⟨0x26, o⟩ (.width .c8x8) (layout8x8 3 0 s.cfg.trigAddr[k] 0) s) ∧
        exec (.trigWriteTx o) s =
          .next (acceptedState ⟨0x27, o⟩ (.width .c8x8) (layout8x8 3 1 s.cfg.trigAddr[k] (byteOf o.data 0)) s)) ∧
      (o.chan = 0 →
        exec (.trigReadRx o) s = .next (acceptedState ⟨0x26, o⟩ (.width .c8x8) (layout8x8 4 0 s.cfg.trigAddr[k] 0) s) ∧
        exec (.trigWriteRx o) s =
          .next (acceptedState ⟨0x27, o⟩ (.width .c8x8) (layout8x8 4 1 s.cfg.trigAddr[k] (byteOf o.data 0)) s))) ∧
    (3 ≤ o.sel.toNat →
      exec (.trigReadTx o) s = .next (rejectedState ⟨0x26, o⟩ s) ∧ exec (.trigWriteTx o) s = .next (rejectedState ⟨0x27, o⟩ s) ∧
      exec (.trigReadRx o) s = .next (rejectedState ⟨0x26, o⟩ s) ∧ exec (.trigWriteRx o) s = .next (rejectedState ⟨0x27, o⟩ s))

/-- R238, R239, R243 to R246: the VCTCXO DAC, AD56x1 and INA219 accesses. -/
def Obligations.DacAndMonitorAreAccepted : Prop :=
  ∀ (o : OpFields) (s : State), s.dState = .idle →
    let rd := fun (opc : BitVec 8) (target : Byte) =>
      acceptedState ⟨opc, o⟩ (.width .c8x16) (layout8x16 target 0 (byteOf o.addr 0) 0) s
    let wr := fun (opc : BitVec 8) (target : Byte) =>
      acceptedState ⟨opc, o⟩ (.width .c8x16) (layout8x16 target 1 (byteOf o.addr 0) (o.data.extractLsb' 0 16)) s
    exec (.vctcxoDacRead o) s = .next (rd 0x30 0) ∧ exec (.vctcxoDacWrite o) s = .next (wr 0x31 0) ∧
    exec (.ad56x1Read o) s = .next (rd 0x35 3) ∧ exec (.ad56x1Write o) s = .next (wr 0x36 3) ∧
    exec (.ina219Read o) s = .next (rd 0x37 4) ∧ exec (.ina219Write o) s = .next (wr 0x38 4)

/-- R240 to R242: the IQ field selector is the address; a selector above 3 is rejected with no exchange. -/
def Obligations.IqCorrectionIsAcceptedOrRejected : Prop :=
  ∀ (o : OpFields) (s : State), s.dState = .idle →
    (o.sel.toNat ≤ 3 →
      exec (.iqcorrRead o) s = .next (acceptedState ⟨0x32, o⟩ (.width .c8x16) (layout8x16 1 0 o.sel 0) s) ∧
      exec (.iqcorrWrite o) s =
        .next (acceptedState ⟨0x33, o⟩ (.width .c8x16) (layout8x16 1 1 o.sel (o.data.extractLsb' 0 16)) s)) ∧
    (4 ≤ o.sel.toNat →
      exec (.iqcorrRead o) s = .next (rejectedState ⟨0x32, o⟩ s) ∧
      exec (.iqcorrWrite o) s = .next (rejectedState ⟨0x33, o⟩ s))

/-- R247: `AGC_DC_WRITE` starts with the write of index 0. -/
def Obligations.AgcIsAcceptedAtIndexZero : Prop :=
  ∀ (o : OpFields) (s : State), s.dState = .idle →
    exec (.agcDcWrite o) s = .next (acceptedState ⟨0x34, o⟩ (.width .c8x16) (layout8x16 2 1 0 o.agc[0]) s)

/-- R249 to R259: the 8x32 operations. -/
def Obligations.EightByThirtyTwoAreAccepted : Prop :=
  ∀ (o : OpFields) (s : State), s.dState = .idle →
    let rd := fun (opc : BitVec 8) (target : Byte) =>
      acceptedState ⟨opc, o⟩ (.width .c8x32) (layout8x32 target 0 (byteOf o.addr 0) 0) s
    let wr := fun (opc : BitVec 8) (target : Byte) =>
      acceptedState ⟨opc, o⟩ (.width .c8x32) (layout8x32 target 1 (byteOf o.addr 0) (o.data.extractLsb' 0 32)) s
    exec (.fpgaVersionRead o) s = .next (acceptedState ⟨0x40, o⟩ (.width .c8x32) (layout8x32 0 0 0 0) s) ∧
    exec (.configRead o) s = .next (rd 0x41 1) ∧ exec (.configWrite o) s = .next (wr 0x42 1) ∧
    exec (.xb200Read o) s = .next (rd 0x43 2) ∧ exec (.xb200Write o) s = .next (wr 0x44 2) ∧
    exec (.rffeRead o) s = .next (rd 0x45 3) ∧ exec (.rffeWrite o) s = .next (wr 0x46 3) ∧
    exec (.adf400xRead o) s = .next (rd 0x47 4) ∧ exec (.adf400xWrite o) s = .next (wr 0x48 4) ∧
    exec (.fastlockRead o) s = .next (rd 0x49 5) ∧ exec (.fastlockWrite o) s = .next (wr 0x4A 5)

/-- R260 to R263: the 16x64 operations. -/
def Obligations.SixteenBySixtyFourAreAccepted : Prop :=
  ∀ (o : OpFields) (s : State), s.dState = .idle →
    let rd := fun (opc : BitVec 8) (target : Byte) =>
      acceptedState ⟨opc, o⟩ (.width .c16x64) (layout16x64 target 0 (o.addr.extractLsb' 0 16) 0) s
    let wr := fun (opc : BitVec 8) (target : Byte) =>
      acceptedState ⟨opc, o⟩ (.width .c16x64) (layout16x64 target 1 (o.addr.extractLsb' 0 16) o.data) s
    exec (.ad9361Read o) s = .next (rd 0x50 0) ∧ exec (.ad9361Write o) s = .next (wr 0x51 0) ∧
    exec (.rficRead o) s = .next (rd 0x52 1) ∧ exec (.rficWrite o) s = .next (wr 0x53 1)

/-- R264 to R271: the 32x32 operations; the masked ones carry the mask as the address and the value unmasked. -/
def Obligations.ThirtyTwoByThirtyTwoAreAccepted : Prop :=
  ∀ (o : OpFields) (s : State), s.dState = .idle →
    let rd := fun (opc : BitVec 8) (target : Byte) =>
      acceptedState ⟨opc, o⟩ (.width .c32x32) (layout32x32 target 0 o.addr 0) s
    let wr := fun (opc : BitVec 8) (target : Byte) =>
      acceptedState ⟨opc, o⟩ (.width .c32x32) (layout32x32 target 1 o.addr (o.data.extractLsb' 0 32)) s
    exec (.expgpioRead o) s = .next (rd 0x60 0) ∧ exec (.expgpioWrite o) s = .next (wr 0x61 0) ∧
    exec (.expgpioDirRead o) s = .next (rd 0x62 1) ∧ exec (.expgpioDirWrite o) s = .next (wr 0x63 1) ∧
    exec (.adiAxiRead o) s = .next (rd 0x64 2) ∧ exec (.adiAxiWrite o) s = .next (wr 0x65 2) ∧
    exec (.wishboneRead o) s = .next (rd 0x66 3) ∧ exec (.wishboneWrite o) s = .next (wr 0x67 3)

/-- R301, R302: the retunes are scheduled with their packet, timestamp and kind; a channel other than 0 and 1 is rejected with
no exchange and leaves `R_ERR` (R304). -/
def Obligations.RetunesAreScheduledOrRejected : Prop :=
  ∀ (o : OpFields) (s : State), s.dState = .idle →
    ((o.chan = 0 ∨ o.chan = 1) →
      exec (.retune o) s = .next (acceptedRetune ⟨0x70, o⟩ .retune .retune
        (layoutRetune o.ts (pllWord o.nint o.nfrac) (o.freqsel ||| (if o.chan = 0 then 0x40 else 0x80))
          (o.vcocap ||| (if o.lowBand then 0x80 else 0) ||| (if o.quickTune then 0x40 else 0)) o.xbGpio) s) ∧
      exec (.retune2 o) s = .next (acceptedRetune ⟨0x71, o⟩ .retune2 .retune2
        (layoutRetune2 o.ts o.niosProfile o.rffeProfile
          ((o.port &&& 0x7F) ||| (if o.port.getLsbD 7 = false ∧ o.chan = 0 then 0x80 else 0)) o.spdt) s)) ∧
    (o.chan ≠ 0 → o.chan ≠ 1 →
      exec (.retune o) s = .next (rejectedState ⟨0x70, o⟩ s) ∧ (rejectedState ⟨0x70, o⟩ s).rState = .err ∧
      exec (.retune2 o) s = .next (rejectedState ⟨0x71, o⟩ s) ∧ (rejectedState ⟨0x71, o⟩ s).rState = .err)

/-- R192, R201: `DRAIN` is accepted straight into `D_RECV`: no request is built and nothing is sent. -/
def Obligations.DrainIsAcceptedWithoutARequest : Prop :=
  ∀ (o : OpFields) (s : State), s.dState = .idle →
    exec (.drain o) s =
      .next { s with res := { s.res with valid := false }, sOp := ⟨0x7F, o⟩, sIdx := 0, dState := .recv }

/-- R192, R221, R327: the accept step does for every descriptor what the table-driven `DECODE` says, unknown operation codes
and channels among them. -/
def Obligations.AcceptStepFollowsDecode : Prop :=
  ∀ (d : OpDesc) (rest : List OpDesc) (s : State), running s → s.dState = .idle → s.env.offers = d :: rest → d.opc ≠ 0x7F →
    step s = .next
      (match decodeSpec s.cfg d with
      | some (fam, B) => acceptedAs d fam B (withOffers rest s)
      | none => rejectedState d (withOffers rest s))

/-- R196: while an operation is in flight the block is not ready and an offered operation waits: it is not lost, not refused,
and changes nothing. Where the input a step needs has not come (no offer, no outcome of the transport yet: R202, 93 I8 to I10), the
block waits as it is: the model's reading of a wait, assumption log 3. -/
def Obligations.BusyBlockAcceptsNothing : Prop :=
  (∀ (i : Instr) (s : State), isOperation i = true → s.dState ≠ .idle → opReady s = false ∧ exec i s = .next s) ∧
  (∀ s t : State, running s → s.dState ≠ .idle → step s = .next t → t.env.offers = s.env.offers ∧ t.sOp = s.sOp) ∧
  ∀ s : State, running s →
    (s.dState = .idle ∧ s.env.offers = []) ∨ (s.dState = .send ∧ s.env.sends = []) ∨ (s.dState = .recv ∧ s.env.recvs = []) →
    step s = .next s

/-- R116: a named operation with no check and no post-processing has the same packets, the same exchanges and the same result
as its expansion: from their accept steps on, whatever the inputs, the two runs differ in the descriptor in `s_op` only. -/
def Obligations.PseudoOperationsMatchTheirExpansion : Prop :=
  ∀ (o : OpFields) (s : State) (r : MapRow), s.cfg.respLen = 16 → s.dState = .idle → r ∈ targetMap →
    r.opc ∉ ([0x60, 0x61, 0x62, 0x63] : List (BitVec 8)) →
    ∃ i j t u, decode (.op ⟨r.opc, o⟩) = .ok i ∧
      decode (.op ⟨(match r.cls with | .c8x8 => 0x10 | .c8x16 => 0x11 | .c8x32 => 0x12 | .c16x64 => 0x13 | .c32x32 => 0x14),
        { o with target := r.target, write := r.write }⟩) = .ok j ∧
      exec i s = .next t ∧ exec j s = .next u ∧
      ∀ n, ∃ t' u', Host.Core.run Sys2Proof.core n t = .next t' ∧ Host.Core.run Sys2Proof.core n u = .next u' ∧
        { t' with sOp := {} } = { u' with sOp := {} }

/-! ## The steps -/

/-- A step runs the decoded instruction: what it takes from the port, from `d_req` or from the transport is removed or recorded
first, and the rest is `exec` (R192, R193, R194). -/
def Obligations.StepRunsTheDecodedInstruction : Prop :=
  ∀ (i : Instr) (s : State), running s →
    (∀ d rest, s.dState = .idle → s.env.offers = d :: rest → decode (.op d) = .ok i → step s = exec i (withOffers rest s)) ∧
    (s.dState = .send → encode i = .request s.dReq → decode (.request s.dReq) = .ok i → step s = exec i s) ∧
    (∀ B rest, s.dState = .recv → s.env.recvs = .ok 16 B :: rest → s.sOp.opc ≠ 0x7F → decode (.response B) = .ok i →
      step s = exec i (withRecvs rest (recorded (.received s.cfg.respEp (.ok 16 B)) s)))

/-- R193, R197: the send step hands `d_req`, whatever it holds, to the transport on the command endpoint; on OK the block waits
for the response, and a transport error ends the operation with the transport's own value. -/
def Obligations.SendStepHandsOverTheRequest : Prop :=
  ∀ (s : State) (rest : List SendOutcome), running s → s.dState = .send →
    (s.env.sends = .ok :: rest →
      step s = .next { withSends rest (recorded (.sent s.cfg.cmdEp s.dReq .ok) s) with dState := .recv }) ∧
    ∀ e, s.env.sends = .terr e :: rest →
      step s = .next (failedState .transportError (e.setWidth 64)
        { withSends rest (recorded (.sent s.cfg.cmdEp s.dReq (.terr e)) s) with dLink := .unsync })

/-- R194, R195, R197: a transport error and a response of a wrong length end the operation in the receive step, without writing
`d_resp`, and leave the link unsynchronised. -/
def Obligations.ReceiveStepEndsOnTransportAndLengthErrors : Prop :=
  ∀ (s : State) (rest : List RecvOutcome), running s → s.dState = .recv →
    (∀ e, s.env.recvs = .terr e :: rest →
      step s = .next (failedState .transportError (e.setWidth 64)
        { withRecvs rest (recorded (.received s.cfg.respEp (.terr e)) s) with dLink := .unsync })) ∧
    ∀ len B, s.env.recvs = .ok len B :: rest → s.sOp.opc ≠ 0x7F → len ≠ 16 →
      step s = .next (failedState .framingError (BitVec.ofNat 64 (256 + len.toNat))
        { withRecvs rest (recorded (.received s.cfg.respEp (.ok len B)) s) with dLink := .unsync })

/-- R109, R323: a response of 16 bytes whose magic is not the tag of the family in flight ends the operation with that byte as
the info, and leaves the link as it was. -/
def Obligations.ForeignMagicIsAFramingError : Prop :=
  ∀ (s : State) (B : Packet) (rest : List RecvOutcome), running s → Coherent s → s.dState = .recv → s.sOp.opc ≠ 0x7F →
    s.env.recvs = .ok 16 B :: rest → byteAt B 0 ≠ familyMagic s.sFam →
    step s = .next (failedState .framingError ((byteAt B 0).setWidth 64)
      { withRecvs rest (recorded (.received s.cfg.respEp (.ok 16 B)) s) with dResp := B })

/-- R201: `DRAIN` in two steps: one `Recv`, no length or magic check, `SYNC` on a delivery, TransportError on an error of the
transport; until the transport returns it waits in `D_RECV`. -/
def Obligations.DrainReceivesOneResponse : Prop :=
  ∀ (s : State) (f : OpFields) (rest : List OpDesc) (rs : List RecvOutcome), running s → s.dState = .idle →
    s.env.offers = ⟨0x7F, f⟩ :: rest →
    let s1 : State := { withOffers rest s with
      res := { s.res with valid := false }, sOp := ⟨0x7F, f⟩, sIdx := 0, dState := .recv }
    (s.env.recvs = [] → Host.Core.run Sys2Proof.core 2 s = .next s1) ∧
    (∀ len B, s.env.recvs = .ok len B :: rs →
      Host.Core.run Sys2Proof.core 2 s = .next (endedState {}
        { withRecvs rs (recorded (.received s.cfg.respEp (.ok len B)) s1) with dLink := .sync })) ∧
    ∀ e, s.env.recvs = .terr e :: rs →
      Host.Core.run Sys2Proof.core 2 s = .next (failedState .transportError (e.setWidth 64)
        { withRecvs rs (recorded (.received s.cfg.respEp (.terr e)) s1) with dLink := .unsync })

/-- R350: reset is one step, enabled in every state and before every other step; it writes every register of the table, calls
no transport primitive, and the block is ready after it with no result valid. The configuration registers and what the other
agents hold are as before (R351, R352). -/
def Obligations.ResetStepClearsTheBlock : Prop :=
  ∀ (s : State) (rest : List Bool), s.cfg.respLen = 16 → s.env.resetIn = true :: rest →
    ∃ t, step s = .next t ∧
      t = { cfg := s.cfg
            dState := .idle
            dReq := #v[0, 0, 0, 0, 0, 0, 0, 0, 0, 0, 0, 0, 0, 0, 0, 0]
            dResp := #v[0, 0, 0, 0, 0, 0, 0, 0, 0, 0, 0, 0, 0, 0, 0, 0]
            dLink := .sync
            sOp := ⟨0, ⟨0, false, 0, 0, 0, 0, #v[0, 0, 0, 0, 0, 0], 0, 0, 0, 0, 0, false, false, 0, 0, 0, 0, 0⟩⟩
            sFam := .width .c8x8
            sIdx := 0
            rState := .idle
            rTs := 0
            rKind := .retune
            res := ⟨false, .ok, 0, false, false, 0, 0, 0, 0, 0, 0, .idle, .sync⟩
            env := { s.env with resetIn := rest, trace := .reset :: s.env.trace } } ∧
      familyCode t.sFam = 0 ∧ opReady t = true ∧ t.res.valid = false

/-- R350, R351: the state after reset: every register of the table at its value; and it is sound, with the link in order. -/
def Obligations.ResetStateIsTheResetTable : Prop :=
  State.reset.dState = .idle ∧ (∀ i < 16, byteAt State.reset.dReq i = 0 ∧ byteAt State.reset.dResp i = 0) ∧
  State.reset.dLink = .sync ∧ State.reset.sOp = ⟨0, {}⟩ ∧ familyCode State.reset.sFam = 0 ∧ State.reset.sIdx = 0 ∧
  State.reset.rState = .idle ∧ State.reset.rTs = 0 ∧ State.reset.rKind = .retune ∧
  State.reset.res = ⟨false, .ok, 0, false, false, 0, 0, 0, 0, 0, 0, .idle, .sync⟩ ∧ State.reset.cfg = Cfg.instantiated ∧
  Coherent State.reset ∧ LinkInOrder State.reset

/-- The request rows: in `D_SEND` the packet goes out on the command endpoint (R193). That a request row stands for the send
step is the model's reading, assumption log 7; that it writes its packet to `d_req` first is the model's choice, assumption log
28: R193 sends what `d_req` holds and writes nothing there, and where `d_req` holds the packet already, as in every step of the
machine, the write changes nothing. -/
def Obligations.WidthRequestsAreSent : Prop :=
  ∀ (s : State) (rest : List SendOutcome) (t a8 d8 : Byte) (a16 d16 : BitVec 16) (a32 d32 : BitVec 32) (d64 : BitVec 64),
    s.dState = .send → s.env.sends = .ok :: rest →
    let sent := fun B : Packet =>
      ({ withSends rest (recorded (.sent s.cfg.cmdEp B .ok) s) with dReq := B, dState := .recv } : State)
    exec (.req8x8Rd t a8 d8) s = .next (sent (layout8x8 t 0 a8 d8)) ∧
    exec (.req8x8Wr t a8 d8) s = .next (sent (layout8x8 t 1 a8 d8)) ∧
    exec (.req8x16Rd t a8 d16) s = .next (sent (layout8x16 t 0 a8 d16)) ∧
    exec (.req8x16Wr t a8 d16) s = .next (sent (layout8x16 t 1 a8 d16)) ∧
    exec (.req8x32Rd t a8 d32) s = .next (sent (layout8x32 t 0 a8 d32)) ∧
    exec (.req8x32Wr t a8 d32) s = .next (sent (layout8x32 t 1 a8 d32)) ∧
    exec (.req16x64Rd t a16 d64) s = .next (sent (layout16x64 t 0 a16 d64)) ∧
    exec (.req16x64Wr t a16 d64) s = .next (sent (layout16x64 t 1 a16 d64)) ∧
    exec (.req32x32Rd t a32 d32) s = .next (sent (layout32x32 t 0 a32 d32)) ∧
    exec (.req32x32Wr t a32 d32) s = .next (sent (layout32x32 t 1 a32 d32))

/-- The two retune request rows: the same for the formats of R98 and R100, with the operands of assumption log 25. Here too the
row standing for the send step is the model's reading, assumption log 7, and the write of the packet to `d_req` in it the model's
choice, assumption log 28. -/
def Obligations.RetuneRequestsAreSent : Prop :=
  ∀ (s : State) (rest : List SendOutcome) (ts : BitVec 64) (ni : BitVec 9) (nf : BitVec 23) (fb bb xb rp pb sp : Byte)
    (np : BitVec 16), s.dState = .send → s.env.sends = .ok :: rest →
    let sent := fun B : Packet =>
      ({ withSends rest (recorded (.sent s.cfg.cmdEp B .ok) s) with dReq := B, dState := .recv } : State)
    exec (.reqRetune ts ni nf fb bb xb) s = .next (sent (layoutRetune ts (ni ++ nf) fb bb xb)) ∧
    exec (.reqRetune2 ts np rp pb sp) s = .next (sent (layoutRetune2 ts np rp pb sp))

/-- The model's reading (assumption log 8): outside `D_SEND` a request row, and outside `D_RECV` a response row, changes no
register: `Send` and `Recv` are not called there (R43) and the codec engines hold no state (R149, R177). -/
def Obligations.PacketsOutsideTheirStepChangeNothing : Prop :=
  ∀ (i : Instr) (s : State) (B : Packet),
    (encode i = .request B → s.dState ≠ .send → exec i s = .next s) ∧
    (encode i = .response B → s.dState ≠ .recv → exec i s = .next s)

/-! ## The receive step and its handlers -/

/-- R222, R133: an 8x8 or 8x16 response ends a plain operation OK whatever its flags, with the data field zero-extended and
the two flag bits reported. -/
def Obligations.NarrowResponsesEndOk : Prop :=
  ∀ (b : Body) (s : State), s.dState = .recv → plainOpc s.sOp.opc = true →
    (s.sFam = .width .c8x8 →
      let B := frame 0x41 b
      exec (.rsp8x8 b) s = .next (endedState
        { data := dataOf .c8x8 B, write := bit0 (byteAt B 2), flag1 := bit1 (byteAt B 2) } { s with dResp := B })) ∧
    (s.sFam = .width .c8x16 →
      let B := frame 0x42 b
      exec (.rsp8x16 b) s = .next (endedState
        { data := dataOf .c8x16 B, write := bit0 (byteAt B 2), flag1 := bit1 (byteAt B 2) } { s with dResp := B }))

/-- R222, R328: an 8x32, 16x64 or 32x32 response with the success bit set ends a plain operation OK with the data field; with
the bit clear it ends in OperationFailed with the flags byte as the info. -/
def Obligations.WideResponsesNeedTheSuccessBit : Prop :=
  ∀ (b : Body) (s : State), s.dState = .recv → plainOpc s.sOp.opc = true →
    let ended := fun (c : WidthClass) (B : Packet) =>
      if bit1 (byteAt B 2) = true then
        endedState { data := dataOf c B, write := bit0 (byteAt B 2), flag1 := true } { s with dResp := B }
      else
        endedState { status := .operationFailed, data := (byteAt B 2).setWidth 64, write := bit0 (byteAt B 2) } { s with dResp := B }
    (s.sFam = .width .c8x32 → exec (.rsp8x32 b) s = .next (ended .c8x32 (frame 0x43 b))) ∧
    (s.sFam = .width .c16x64 → exec (.rsp16x64 b) s = .next (ended .c16x64 (frame 0x45 b))) ∧
    (s.sFam = .width .c32x32 → exec (.rsp32x32 b) s = .next (ended .c32x32 (frame 0x4B b)))

/-- R234, R324: a tamer mode of 0, 1 or 2 is reported; any other byte is UnexpectedValue with that byte as the info. -/
def Obligations.TamerModeIsChecked : Prop :=
  ∀ (b : Body) (s : State), s.dState = .recv → s.sFam = .width .c8x8 → s.sOp.opc = 0x24 →
    let B := frame 0x41 b
    let m := byteAt B 5
    exec (.rsp8x8 b) s = .next (endedState
      { status := (if m = 0 ∨ m = 1 ∨ m = 2 then .ok else .unexpectedValue)
        data := m.setWidth 64
        write := bit0 (byteAt B 2)
        flag1 := bit1 (byteAt B 2) } { s with dResp := B })

/-- R251: the FPGA version word is kept whole and split into its three byte fields when the success bit is set; otherwise the
operation failed and no field is written. -/
def Obligations.FpgaVersionIsSplit : Prop :=
  ∀ (b : Body) (s : State), s.dState = .recv → s.sFam = .width .c8x32 → s.sOp.opc = 0x40 →
    let B := frame 0x43 b
    exec (.rsp8x32 b) s = .next
      (if bit1 (byteAt B 2) = true then
        endedState
          { data := dataOf .c8x32 B, major := byteAt B 7, minor := byteAt B 6, patch := byteAt B 5, write := bit0 (byteAt B 2),
            flag1 := true } { s with dResp := B }
      else
        endedState { status := .operationFailed, data := (byteAt B 2).setWidth 64, write := bit0 (byteAt B 2) } { s with dResp := B })

/-- R222, R264, R266, R328: a masked read reports the response's bits inside the mask it sent and no others; with the success
bit clear it ends in OperationFailed with the whole flags byte, unmasked, as the info. -/
def Obligations.MaskedReadsReportOnlyMaskedBits : Prop :=
  ∀ (b : Body) (s : State), s.dState = .recv → s.sFam = .width .c32x32 → (s.sOp.opc = 0x60 ∨ s.sOp.opc = 0x62) →
    let B := frame 0x4B b
    exec (.rsp32x32 b) s = .next
      (if bit1 (byteAt B 2) = true then
        endedState { data := dataOf .c32x32 B &&& s.sOp.fields.addr.setWidth 64, write := bit0 (byteAt B 2), flag1 := true }
          { s with dResp := B }
      else
        endedState { status := .operationFailed, data := (byteAt B 2).setWidth 64, write := bit0 (byteAt B 2) } { s with dResp := B })

/-- R247: the sequencer step: after index 0 to 4 the next write, in order, with no result yet; after index 5 the operation ends
OK with index 6 and the last response's bit 1; a foreign magic ends it at the index in flight. That `res_write` is 0 at the end is
the model's reading, assumption log 17. -/
def Obligations.AgcSequencerAdvancesInOrder : Prop :=
  ∀ (s : State), s.dState = .recv → s.sOp.opc = 0x34 →
    (∀ (b : Body) (k : Fin 6), k.val = s.sIdx.val + 1 →
      exec (.rsp8x16 b) s = .next { s with
        dResp := frame 0x42 b
        sIdx := k
        dReq := layout8x16 2 1 (BitVec.ofNat 8 k.val) s.sOp.fields.agc[k]
        dState := .send }) ∧
    (∀ b : Body, s.sIdx.val = 5 →
      exec (.rsp8x16 b) s = .next (endedState { flag1 := bit1 (byteAt (frame 0x42 b) 2), idx := 6 } { s with dResp := frame 0x42 b })) ∧
    ∀ (i : Instr) (B : Packet), encode i = .response B → byteAt B 0 ≠ 0x42 →
      exec i s = .next (failedState .framingError ((byteAt B 0).setWidth 64) { s with dResp := B })

/-- R303: the three outcomes of a well-framed retune or retune2 response, with what each leaves in `r_state` and the result
registers; a foreign magic is a FramingError that leaves `R_ERR`. -/
def Obligations.RetuneResponsesSettleTheRetune : Prop :=
  ∀ (b : Body) (s : State), s.dState = .recv →
    let settled := fun (B : Packet) (vcocap flags : Byte) =>
      if bit1 flags = true then
        endedState { duration := durationOf B, vcocap := vcocap, flag1 := true } { s with dResp := B, rState := .done }
      else if s.rTs = s.cfg.retuneNow then
        endedState { status := .tuneFailure, data := s.rTs, vcocap := vcocap } { s with dResp := B, rState := .fail }
      else
        endedState { status := .queueFull, data := s.rTs, vcocap := vcocap } { s with dResp := B, rState := .qfull }
    (s.sFam = .retune → s.sOp.opc = 0x70 →
      exec (.rspRetune b) s = .next (settled (frame 0x54 b) (byteAt (frame 0x54 b) 9) (byteAt (frame 0x54 b) 10))) ∧
    (s.sFam = .retune2 → s.sOp.opc = 0x71 →
      exec (.rspRetune2 b) s = .next (settled (frame 0x55 b) 0 (byteAt (frame 0x55 b) 9))) ∧
    ∀ B : Packet,
      (s.sFam = .retune ∧ s.sOp.opc = 0x70 ∧ byteAt B 0 ≠ 0x54) ∨ (s.sFam = .retune2 ∧ s.sOp.opc = 0x71 ∧ byteAt B 0 ≠ 0x55) →
      receive B s = .next (endedState { status := .framingError, data := (byteAt B 0).setWidth 64 }
        { s with dResp := B, rState := .err })

/-! ## Invariants and whole-machine rules -/

/-- Every step keeps the registers coherent: R30 to R39, R300, R309, R358 said of every state. -/
def Obligations.EveryStepKeepsCoherence : Prop :=
  ∀ s t : State, Coherent s → step s = .next t → Coherent t

/-- R70, R357: every step keeps strict alternation: the block sends only when every earlier request has had its outcome. -/
def Obligations.EveryStepKeepsAlternation : Prop :=
  ∀ s t : State, LinkInOrder s → step s = .next t → LinkInOrder t

/-- R351: no step, reset among them, writes a configuration register; they hold what the model was instantiated with. -/
def Obligations.ConfigurationIsNeverWritten : Prop :=
  State.reset.cfg = ⟨Config.cmdEp, Config.respEp, 16, Config.retuneNow, Config.tamerAddr, Config.trigAddr⟩ ∧
  ∀ s t : State, step s = .next t → t.cfg = s.cfg

/-- R222 with R192 to R194: a plain width-class operation from offer to result, three steps: the request is on the wire, and
the result registers hold the verdict, the data or the error info, and the two flag bits; nothing else but `s_op`, `s_fam`,
`s_idx`, `d_req` and `d_resp` has changed. -/
def Obligations.PlainOperationEndsInThreeSteps : Prop :=
  ∀ (s : State) (d : OpDesc) (rest : List OpDesc) (c : WidthClass) (Q B : Packet) (ss : List SendOutcome)
    (rs : List RecvOutcome), running s → s.dState = .idle → s.env.offers = d :: rest → plainOpc d.opc = true →
    decodeSpec s.cfg d = some (.width c, Q) → s.env.sends = .ok :: ss → s.env.recvs = .ok 16 B :: rs →
    let r : Result :=
      if byteAt B 0 ≠ widthMagic c then { status := .framingError, data := (byteAt B 0).setWidth 64 }
      else if (c = .c8x32 ∨ c = .c16x64 ∨ c = .c32x32) ∧ bit1 (byteAt B 2) = false then
        { status := .operationFailed, data := (byteAt B 2).setWidth 64, write := bit0 (byteAt B 2) }
      else { data := dataOf c B, write := bit0 (byteAt B 2), flag1 := bit1 (byteAt B 2) }
    Host.Core.run Sys2Proof.core 3 s = .next (endedState r { s with
      sOp := d
      sIdx := 0
      sFam := .width c
      dReq := Q
      dResp := B
      env := { s.env with
        offers := rest
        sends := ss
        recvs := rs
        trace := .received s.cfg.respEp (.ok 16 B) :: .sent s.cfg.cmdEp Q .ok :: s.env.trace } })

/-- R247, R71, R372: `AGC_DC_WRITE` with six good exchanges takes thirteen steps, sends its six writes in index order 0 to 5,
each after the response of the one before, and ends OK with index 6 (and `res_write` 0: the model's reading, assumption log
17). -/
def Obligations.AgcTakesThirteenSteps : Prop :=
  ∀ (s : State) (o : OpFields) (rest : List OpDesc) (b : Vector Body 6) (ss : List SendOutcome) (rs : List RecvOutcome),
    running s → s.dState = .idle → s.env.offers = ⟨0x34, o⟩ :: rest →
    s.env.sends = [.ok, .ok, .ok, .ok, .ok, .ok] ++ ss →
    s.env.recvs = [.ok 16 (frame 0x42 b[0]), .ok 16 (frame 0x42 b[1]), .ok 16 (frame 0x42 b[2]), .ok 16 (frame 0x42 b[3]),
      .ok 16 (frame 0x42 b[4]), .ok 16 (frame 0x42 b[5])] ++ rs →
    let q := fun k : Fin 6 => Event.sent s.cfg.cmdEp (layout8x16 2 1 (BitVec.ofNat 8 k.val) o.agc[k]) .ok
    let r := fun k : Fin 6 => Event.received s.cfg.respEp (.ok 16 (frame 0x42 b[k]))
    Host.Core.run Sys2Proof.core 13 s = .next (endedState { flag1 := bit1 (byteAt (frame 0x42 b[5]) 2), idx := 6 } { s with
      sOp := ⟨0x34, o⟩
      sIdx := 5
      sFam := .width .c8x16
      dReq := layout8x16 2 1 5 o.agc[5]
      dResp := frame 0x42 b[5]
      env := { s.env with
        offers := rest
        sends := ss
        recvs := rs
        trace := [r 5, q 5, r 4, q 4, r 3, q 3, r 2, q 2, r 1, q 1, r 0, q 0] ++ s.env.trace } })

/-- R300: every change of `r_state` in a step without reset is a transition of the table. -/
def Obligations.RetuneStateMovesByItsTable : Prop :=
  ∀ s t : State, Coherent s → running s → step s = .next t → retuneMove s t

/-- R305: an operation other than a retune writes none of `r_state`, `r_ts` and `r_kind`. -/
def Obligations.OtherOperationsKeepTheRetuneRegisters : Prop :=
  ∀ s t : State, Coherent s → running s → step s = .next t → retuneOpc t.sOp.opc = false →
    t.rState = s.rState ∧ t.rTs = s.rTs ∧ t.rKind = s.rKind

/-- R198: `d_link` becomes UNSYNC at every transport error and length error, SYNC when a `DRAIN` receives a response, and
changes at no other step without reset. -/
def Obligations.LinkChangesOnlyByItsRule : Prop :=
  ∀ s t : State, running s → step s = .next t →
    let failed := s.dState ≠ .idle ∧ t.dState = .idle ∧
      (t.res.status = .transportError ∨ (t.res.status = .framingError ∧ 256 ≤ t.res.data.toNat))
    let drained := s.dState = .recv ∧ s.sOp.opc = 0x7F ∧ t.dState = .idle ∧ t.res.status = .ok
    (failed → t.dLink = .unsync) ∧ (drained → t.dLink = .sync) ∧ (¬failed → ¬drained → t.dLink = s.dLink)

/-- R40: no old result reaches a new one: two blocks that differ only in their result registers take the same step, and where
it ends an operation their result registers are equal after it. -/
def Obligations.NoOldResultLeaks : Prop :=
  ∀ (s t : State) (r : Result), running s → step s = .next t →
    ∃ r', step { s with res := r } = .next { t with res := r' } ∧ (t.dState = .idle → t.env ≠ s.env → r' = t.res)

/-- No instruction faults or is refused; a step is refused exactly when the model is instantiated with a response length other
than 16 (R26), and never faults (R330, R332). -/
def Obligations.OnlyABadInstantiationIsRefused : Prop :=
  (∀ (i : Instr) (s : State), ∃ t, exec i s = .next t) ∧
  ∀ s : State, (s.cfg.respLen = 16 → ∃ t, step s = .next t) ∧
    (s.cfg.respLen ≠ 16 → step s = .refused .responseLengthNotSixteen)
end

