-- ==== Sys2Proof/Laws/Packet.lean ====
section
/-! SUPPORT. The laws of packet bytes: reading after writing, and what a write leaves alone (00_scope.md R10, R103). -/

namespace Sys2Proof.Laws

open Machine

@[simp] theorem byteAt_setByteAt (B : Packet) (i j : Nat) (v : Byte) :
    byteAt (setByteAt B i v) j = if i = j ∧ j < 16 then v else byteAt B j := by
  unfold byteAt setByteAt
  by_cases hj : j < 16
  · simp only [hj, dite_true, and_true]
    rw [Vector.getElem_setIfInBounds]
  · simp [hj]

/-- Two packets are equal when their bytes are. -/
theorem packet_ext {B C : Packet} (h : ∀ i < 16, byteAt B i = byteAt C i) : B = C := by
  apply Vector.ext
  intro i hi
  simpa [byteAt, hi] using h i hi

/-- `MemWrite` leaves every byte outside its field as it was. -/
theorem byteAt_memWrite_outside (n : Nat) : ∀ (B : Packet) (off v j : Nat), (j < off ∨ off + n ≤ j) →
    byteAt (memWrite B off n v) j = byteAt B j := by
  induction n with
  | zero => intros; rfl
  | succ n ih =>
    intro B off v j hj
    rw [memWrite, ih _ _ _ _ (by omega), byteAt_setByteAt]
    have : ¬(off = j ∧ j < 16) := by omega
    simp [this]

/-- Byte `k` of the field `MemWrite` writes is byte `k` of the value (R10). -/
theorem byteAt_memWrite_inside (n : Nat) : ∀ (B : Packet) (off v k : Nat), k < n → off + k < 16 →
    byteAt (memWrite B off n v) (off + k) = BitVec.ofNat 8 (v / 256 ^ k) := by
  induction n with
  | zero => intros; omega
  | succ n ih =>
    intro B off v k hk hb
    rw [memWrite]
    cases k with
    | zero =>
      rw [byteAt_memWrite_outside _ _ _ _ _ (by omega), byteAt_setByteAt]
      simp [show off < 16 by omega]
    | succ k =>
      rw [show off + (k + 1) = (off + 1) + k by omega, ih _ _ _ _ (by omega) (by omega), Nat.div_div_eq_div_mul, Nat.pow_succ,
        Nat.mul_comm]

/-- `MemRead` looks at the bytes of its field and at nothing else. -/
theorem memRead_congr (n : Nat) : ∀ (B C : Packet) (off : Nat),
    (∀ j, off ≤ j → j < off + n → byteAt B j = byteAt C j) → memRead B off n = memRead C off n := by
  induction n with
  | zero => intros; rfl
  | succ n ih =>
    intro B C off h
    rw [memRead, memRead, h off (by omega) (by omega), ih B C (off + 1) (fun j h1 h2 => h j (by omega) (by omega))]

@[simp] theorem byteAt_frame_zero (m : Byte) (b : Body) : byteAt (frame m b) 0 = m := rfl

@[simp] theorem bodyOf_frame (m : Byte) (b : Body) : bodyOf (frame m b) = b := by
  apply Vector.ext
  intro i hi
  have : i = 0 ∨ i = 1 ∨ i = 2 ∨ i = 3 ∨ i = 4 ∨ i = 5 ∨ i = 6 ∨ i = 7 ∨ i = 8 ∨ i = 9 ∨ i = 10 ∨ i = 11 ∨ i = 12 ∨
      i = 13 ∨ i = 14 := by omega
  rcases this with h | h | h | h | h | h | h | h | h | h | h | h | h | h | h <;> subst h <;> rfl

/-- A packet is its magic and its body. -/
theorem frame_bodyOf (B : Packet) : frame (byteAt B 0) (bodyOf B) = B := by
  apply packet_ext
  intro i hi
  have : i = 0 ∨ i = 1 ∨ i = 2 ∨ i = 3 ∨ i = 4 ∨ i = 5 ∨ i = 6 ∨ i = 7 ∨ i = 8 ∨ i = 9 ∨ i = 10 ∨ i = 11 ∨ i = 12 ∨
      i = 13 ∨ i = 14 ∨ i = 15 := by omega
  rcases this with h | h | h | h | h | h | h | h | h | h | h | h | h | h | h | h <;> subst h <;> rfl

end Sys2Proof.Laws
end

