-- ==== Sys2Proof/Laws/Decode.lean ====
section
/-! SUPPORT. Decoding by the magic byte, and the bytes of the values the layouts of Safety.lean speak of, so that no later proof
splits the decoder's matches or unfolds `byteOf`. -/

namespace Sys2Proof.Laws

open Machine

theorem byteAt_zeroPacket (i : Nat) : byteAt zeroPacket i = 0 := by
  unfold byteAt
  split
  · next h =>
    have : i = 0 ∨ i = 1 ∨ i = 2 ∨ i = 3 ∨ i = 4 ∨ i = 5 ∨ i = 6 ∨ i = 7 ∨ i = 8 ∨ i = 9 ∨ i = 10 ∨ i = 11 ∨ i = 12 ∨
        i = 13 ∨ i = 14 ∨ i = 15 := by omega
    rcases this with h | h | h | h | h | h | h | h | h | h | h | h | h | h | h | h <;> subst h <;> rfl
  · rfl

/-- Byte `k` of a value, as `MemWrite` computes it (R10). -/
theorem ofNat_div_eq_byteOf {w : Nat} (k : Nat) (v : BitVec w) : BitVec.ofNat 8 (v.toNat / 256 ^ k) = byteOf v k := by
  apply BitVec.eq_of_getLsbD_eq
  intro i hi
  rw [show 256 = 2 ^ 8 from rfl, ← Nat.pow_mul]
  simp only [byteOf, BitVec.getLsbD_extractLsb', BitVec.getLsbD_ofNat, Nat.testBit_div_two_pow, hi, decide_true, Bool.true_and]
  rw [Nat.add_comm, BitVec.testBit_toNat]

/-- The value of a byte string one byte longer: little-endian (R10, R60). -/
theorem toNat_append_byte {w : Nat} (v : BitVec w) (a : Byte) : (v ++ a).toNat = a.toNat + 256 * v.toNat := by
  rw [BitVec.toNat_append, ← Nat.shiftLeft_add_eq_or_of_lt a.isLt, Nat.shiftLeft_eq]
  omega

/-- A one-byte field is its byte (R10). -/
theorem ofNat_memRead_one (B : Packet) (k : Nat) : BitVec.ofNat 8 (memRead B k 1) = byteAt B k := by
  simp [memRead]

/-- A two-byte field is its bytes, the first the least significant (R10, R60). -/
theorem ofNat_memRead_two (B : Packet) (k : Nat) : BitVec.ofNat 16 (memRead B k 2) = byteAt B (k + 1) ++ byteAt B k := by
  apply BitVec.eq_of_toNat_eq
  simp only [BitVec.toNat_ofNat, toNat_append_byte, memRead]
  have := (byteAt B k).isLt
  have := (byteAt B (k + 1)).isLt
  omega

/-- A four-byte field is its bytes, the first the least significant (R10, R60). -/
theorem ofNat_memRead_four (B : Packet) (k : Nat) :
    BitVec.ofNat 32 (memRead B k 4) = byteAt B (k + 3) ++ byteAt B (k + 2) ++ byteAt B (k + 1) ++ byteAt B k := by
  apply BitVec.eq_of_toNat_eq
  simp only [BitVec.toNat_ofNat, toNat_append_byte, memRead, Nat.add_assoc, Nat.reduceAdd]
  have := (byteAt B k).isLt
  have := (byteAt B (k + 1)).isLt
  have := (byteAt B (k + 2)).isLt
  have := (byteAt B (k + 3)).isLt
  omega

/-- An eight-byte field is its bytes, the first the least significant (R10, R60). -/
theorem ofNat_memRead_eight (B : Packet) (k : Nat) :
    BitVec.ofNat 64 (memRead B k 8) = byteAt B (k + 7) ++ byteAt B (k + 6) ++ byteAt B (k + 5) ++ byteAt B (k + 4) ++
      byteAt B (k + 3) ++ byteAt B (k + 2) ++ byteAt B (k + 1) ++ byteAt B k := by
  apply BitVec.eq_of_toNat_eq
  simp only [BitVec.toNat_ofNat, toNat_append_byte, memRead, Nat.add_assoc, Nat.reduceAdd]
  have := (byteAt B k).isLt
  have := (byteAt B (k + 1)).isLt
  have := (byteAt B (k + 2)).isLt
  have := (byteAt B (k + 3)).isLt
  have := (byteAt B (k + 4)).isLt
  have := (byteAt B (k + 5)).isLt
  have := (byteAt B (k + 6)).isLt
  have := (byteAt B (k + 7)).isLt
  omega

theorem decodeRequest_8x8 {B : Packet} (h : byteAt B 0 = 0x41) :
    decodeRequest B =
      if flagWrite (byteAt B 2) then .ok (.req8x8Wr (byteAt B 1) (addrField .c8x8 8 B) (dataField .c8x8 8 B))
      else .ok (.req8x8Rd (byteAt B 1) (addrField .c8x8 8 B) (dataField .c8x8 8 B)) := by
  unfold decodeRequest; rw [h]; rfl

theorem decodeRequest_8x16 {B : Packet} (h : byteAt B 0 = 0x42) :
    decodeRequest B =
      if flagWrite (byteAt B 2) then .ok (.req8x16Wr (byteAt B 1) (addrField .c8x16 8 B) (dataField .c8x16 16 B))
      else .ok (.req8x16Rd (byteAt B 1) (addrField .c8x16 8 B) (dataField .c8x16 16 B)) := by
  unfold decodeRequest; rw [h]; rfl

theorem decodeRequest_8x32 {B : Packet} (h : byteAt B 0 = 0x43) :
    decodeRequest B =
      if flagWrite (byteAt B 2) then .ok (.req8x32Wr (byteAt B 1) (addrField .c8x32 8 B) (dataField .c8x32 32 B))
      else .ok (.req8x32Rd (byteAt B 1) (addrField .c8x32 8 B) (dataField .c8x32 32 B)) := by
  unfold decodeRequest; rw [h]; rfl

theorem decodeRequest_16x64 {B : Packet} (h : byteAt B 0 = 0x45) :
    decodeRequest B =
      if flagWrite (byteAt B 2) then .ok (.req16x64Wr (byteAt B 1) (addrField .c16x64 16 B) (dataField .c16x64 64 B))
      else .ok (.req16x64Rd (byteAt B 1) (addrField .c16x64 16 B) (dataField .c16x64 64 B)) := by
  unfold decodeRequest; rw [h]; rfl

theorem decodeRequest_32x32 {B : Packet} (h : byteAt B 0 = 0x4B) :
    decodeRequest B =
      if flagWrite (byteAt B 2) then .ok (.req32x32Wr (byteAt B 1) (addrField .c32x32 32 B) (dataField .c32x32 32 B))
      else .ok (.req32x32Rd (byteAt B 1) (addrField .c32x32 32 B) (dataField .c32x32 32 B)) := by
  unfold decodeRequest; rw [h]; rfl

theorem decodeRequest_retune {B : Packet} (h : byteAt B 0 = 0x54) :
    decodeRequest B = .ok (.reqRetune (BitVec.ofNat 64 (memRead B 1 8)) (nintField B) (nfracField B) (byteAt B 13)
      (byteAt B 14) (byteAt B 15)) := by
  unfold decodeRequest; rw [h]; rfl

theorem decodeRequest_retune2 {B : Packet} (h : byteAt B 0 = 0x55) :
    decodeRequest B = .ok (.reqRetune2 (BitVec.ofNat 64 (memRead B 1 8)) (BitVec.ofNat 16 (memRead B 9 2)) (byteAt B 11)
      (byteAt B 12) (byteAt B 13)) := by
  unfold decodeRequest; rw [h]; rfl

theorem decodeResponse_8x8 {B : Packet} (h : byteAt B 0 = 0x41) : decodeResponse B = .ok (.rsp8x8 (bodyOf B)) := by
  unfold decodeResponse; rw [h]; rfl

theorem decodeResponse_8x16 {B : Packet} (h : byteAt B 0 = 0x42) : decodeResponse B = .ok (.rsp8x16 (bodyOf B)) := by
  unfold decodeResponse; rw [h]; rfl

theorem decodeResponse_8x32 {B : Packet} (h : byteAt B 0 = 0x43) : decodeResponse B = .ok (.rsp8x32 (bodyOf B)) := by
  unfold decodeResponse; rw [h]; rfl

theorem decodeResponse_16x64 {B : Packet} (h : byteAt B 0 = 0x45) : decodeResponse B = .ok (.rsp16x64 (bodyOf B)) := by
  unfold decodeResponse; rw [h]; rfl

theorem decodeResponse_32x32 {B : Packet} (h : byteAt B 0 = 0x4B) : decodeResponse B = .ok (.rsp32x32 (bodyOf B)) := by
  unfold decodeResponse; rw [h]; rfl

theorem decodeResponse_retune {B : Packet} (h : byteAt B 0 = 0x54) : decodeResponse B = .ok (.rspRetune (bodyOf B)) := by
  unfold decodeResponse; rw [h]; rfl

theorem decodeResponse_retune2 {B : Packet} (h : byteAt B 0 = 0x55) : decodeResponse B = .ok (.rspRetune2 (bodyOf B)) := by
  unfold decodeResponse; rw [h]; rfl

/-- The seven magic tags of R91. -/
def magicTags : List Byte := [0x41, 0x42, 0x43, 0x45, 0x4B, 0x54, 0x55]

/-- The seven magics, or no response (R91, R109). -/
theorem decodeResponse_foreign {B : Packet} (h : byteAt B 0 ∉ magicTags) :
    decodeResponse B = .error (.badMagic (byteAt B 0)) := by
  simp only [magicTags, List.mem_cons, List.not_mem_nil, or_false, not_or] at h
  unfold decodeResponse
  split <;> simp_all

/-- The seven magics, or no request (R91). -/
theorem decodeRequest_foreign {B : Packet} (h : byteAt B 0 ∉ magicTags) :
    decodeRequest B = .error (.badMagic (byteAt B 0)) := by
  simp only [magicTags, List.mem_cons, List.not_mem_nil, or_false, not_or] at h
  unfold decodeRequest
  split <;> simp_all

end Sys2Proof.Laws
end

