-- ==== Sys2Proof/Laws/Exec.lean ====
section
/-! SUPPORT. What `exec` is, kind by kind: a request row is the send step of its packet, a response row the receive step of its
buffer, an operation row the accept step with the request `DECODE` gives its descriptor. Later proofs use these and never
unfold the 69 meanings. -/

namespace Sys2Proof.Laws

open Machine

/-- `DECODE` (43_target_map.md R221) as one function of the descriptor, over the machine's own operand forms. -/
def requestOf (cfg : Cfg) (d : OpDesc) : Option (Family × Packet) :=
  let o := d.fields
  match d.opc with
  | 0x10 => genericRequest .c8x8 o
  | 0x11 => genericRequest .c8x16 o
  | 0x12 => genericRequest .c8x32 o
  | 0x13 => genericRequest .c16x64 o
  | 0x14 => genericRequest .c32x32 o
  | 0x20 => readRequest .c8x8 0 o
  | 0x21 => writeRequest .c8x8 0 o
  | 0x22 => readRequest .c8x8 1 o
  | 0x23 => writeRequest .c8x8 1 o
  | 0x24 => tamerGetRequest cfg
  | 0x25 => tamerSetRequest cfg o
  | 0x26 => trigRequest cfg false 0 o
  | 0x27 => trigRequest cfg true o.data.toNat o
  | 0x30 => readRequest .c8x16 0 o
  | 0x31 => writeRequest .c8x16 0 o
  | 0x32 => iqRequest false 0 o
  | 0x33 => iqRequest true o.data.toNat o
  | 0x34 => some (.width .c8x16, agcRequest o 0)
  | 0x35 => readRequest .c8x16 3 o
  | 0x36 => writeRequest .c8x16 3 o
  | 0x37 => readRequest .c8x16 4 o
  | 0x38 => writeRequest .c8x16 4 o
  | 0x40 => some (.width .c8x32, pack .c8x32 0 false 0 0)
  | 0x41 => readRequest .c8x32 1 o
  | 0x42 => writeRequest .c8x32 1 o
  | 0x43 => readRequest .c8x32 2 o
  | 0x44 => writeRequest .c8x32 2 o
  | 0x45 => readRequest .c8x32 3 o
  | 0x46 => writeRequest .c8x32 3 o
  | 0x47 => readRequest .c8x32 4 o
  | 0x48 => writeRequest .c8x32 4 o
  | 0x49 => readRequest .c8x32 5 o
  | 0x4A => writeRequest .c8x32 5 o
  | 0x50 => readRequest .c16x64 0 o
  | 0x51 => writeRequest .c16x64 0 o
  | 0x52 => readRequest .c16x64 1 o
  | 0x53 => writeRequest .c16x64 1 o
  | 0x60 => readRequest .c32x32 0 o
  | 0x61 => writeRequest .c32x32 0 o
  | 0x62 => readRequest .c32x32 1 o
  | 0x63 => writeRequest .c32x32 1 o
  | 0x64 => readRequest .c32x32 2 o
  | 0x65 => writeRequest .c32x32 2 o
  | 0x66 => readRequest .c32x32 3 o
  | 0x67 => writeRequest .c32x32 3 o
  | 0x70 => retuneRequest o
  | 0x71 => retune2Request o
  | _ => none

/-- A request row is the send step of its packet (R193). -/
theorem exec_of_request {i : Instr} {B : Packet} (h : encode i = .request B) (s : State) : exec i s = sendRequest B s := by
  cases i <;> simp only [encode, Image.request.injEq, reduceCtorEq] at h <;> subst h <;> rfl

/-- A response row is the receive step of its buffer (R194). -/
theorem exec_of_response {i : Instr} {B : Packet} (h : encode i = .response B) (s : State) : exec i s = receive B s := by
  cases i <;> simp only [encode, Image.response.injEq, reduceCtorEq] at h <;> subst h <;> rfl

/-- An operation row but `DRAIN` is the accept step with the request of its descriptor (R192, R221). -/
theorem exec_of_op {i : Instr} {d : OpDesc} (h : encode i = .op d) (hd : d.opc ≠ Opc.drain) (s : State) :
    exec i s = accept d.opc d.fields (requestOf s.cfg d) s := by
  cases i <;> simp only [encode, Image.op.injEq, reduceCtorEq] at h <;> subst h <;>
    first | rfl | exact absurd rfl hd

/-- `DRAIN` (R201). -/
theorem exec_of_drain {i : Instr} {d : OpDesc} (h : encode i = .op d) (hd : d.opc = Opc.drain) (s : State) :
    exec i s = execDrain d.fields s := by
  cases i <;> simp only [encode, Image.op.injEq, reduceCtorEq] at h <;> subst h <;>
    first | rfl | exact absurd hd (by dsimp only; decide)

end Sys2Proof.Laws
end

