-- ==== Sys2Proof/Laws/State.lean ====
section
/-! SUPPORT. Each field of the state after each named update, so that no later proof unfolds a record update. -/

namespace Sys2Proof.Laws

open Machine

/-! The last write of an ending operation. -/

@[simp] theorem finish_cfg (r : Result) (s : State) : (finish r s).cfg = s.cfg := rfl
@[simp] theorem finish_dState (r : Result) (s : State) : (finish r s).dState = .idle := rfl
@[simp] theorem finish_dReq (r : Result) (s : State) : (finish r s).dReq = s.dReq := rfl
@[simp] theorem finish_dResp (r : Result) (s : State) : (finish r s).dResp = s.dResp := rfl
@[simp] theorem finish_dLink (r : Result) (s : State) : (finish r s).dLink = s.dLink := rfl
@[simp] theorem finish_sOp (r : Result) (s : State) : (finish r s).sOp = s.sOp := rfl
@[simp] theorem finish_sFam (r : Result) (s : State) : (finish r s).sFam = s.sFam := rfl
@[simp] theorem finish_sIdx (r : Result) (s : State) : (finish r s).sIdx = s.sIdx := rfl
@[simp] theorem finish_rState (r : Result) (s : State) : (finish r s).rState = s.rState := rfl
@[simp] theorem finish_rTs (r : Result) (s : State) : (finish r s).rTs = s.rTs := rfl
@[simp] theorem finish_rKind (r : Result) (s : State) : (finish r s).rKind = s.rKind := rfl
@[simp] theorem finish_res (r : Result) (s : State) : (finish r s).res = { r with valid := true, rstate := s.rState, link := s.dLink } := rfl
@[simp] theorem finish_env (r : Result) (s : State) : (finish r s).env = s.env := rfl

/-! `end OK`. -/

@[simp] theorem endOk_cfg (r : Result) (s : State) : (endOk r s).cfg = s.cfg := rfl
@[simp] theorem endOk_dState (r : Result) (s : State) : (endOk r s).dState = .idle := rfl
@[simp] theorem endOk_dReq (r : Result) (s : State) : (endOk r s).dReq = s.dReq := rfl
@[simp] theorem endOk_dResp (r : Result) (s : State) : (endOk r s).dResp = s.dResp := rfl
@[simp] theorem endOk_dLink (r : Result) (s : State) : (endOk r s).dLink = s.dLink := rfl
@[simp] theorem endOk_sOp (r : Result) (s : State) : (endOk r s).sOp = s.sOp := rfl
@[simp] theorem endOk_sFam (r : Result) (s : State) : (endOk r s).sFam = s.sFam := rfl
@[simp] theorem endOk_sIdx (r : Result) (s : State) : (endOk r s).sIdx = s.sIdx := rfl
@[simp] theorem endOk_rState (r : Result) (s : State) : (endOk r s).rState = s.rState := rfl
@[simp] theorem endOk_rTs (r : Result) (s : State) : (endOk r s).rTs = s.rTs := rfl
@[simp] theorem endOk_rKind (r : Result) (s : State) : (endOk r s).rKind = s.rKind := rfl
@[simp] theorem endOk_res (r : Result) (s : State) : (endOk r s).res = { r with status := .ok, valid := true, rstate := s.rState, link := s.dLink } := rfl
@[simp] theorem endOk_env (r : Result) (s : State) : (endOk r s).env = s.env := rfl

/-! `raise E(info)`. -/

@[simp] theorem raise_cfg (e : Status) (info : BitVec 64) (r : Result) (s : State) : (raise e info r s).cfg = s.cfg := rfl
@[simp] theorem raise_dState (e : Status) (info : BitVec 64) (r : Result) (s : State) : (raise e info r s).dState = .idle := rfl
@[simp] theorem raise_dReq (e : Status) (info : BitVec 64) (r : Result) (s : State) : (raise e info r s).dReq = s.dReq := rfl
@[simp] theorem raise_dResp (e : Status) (info : BitVec 64) (r : Result) (s : State) : (raise e info r s).dResp = s.dResp := rfl
@[simp] theorem raise_dLink (e : Status) (info : BitVec 64) (r : Result) (s : State) : (raise e info r s).dLink = s.dLink := rfl
@[simp] theorem raise_sOp (e : Status) (info : BitVec 64) (r : Result) (s : State) : (raise e info r s).sOp = s.sOp := rfl
@[simp] theorem raise_sFam (e : Status) (info : BitVec 64) (r : Result) (s : State) : (raise e info r s).sFam = s.sFam := rfl
@[simp] theorem raise_sIdx (e : Status) (info : BitVec 64) (r : Result) (s : State) : (raise e info r s).sIdx = s.sIdx := rfl
@[simp] theorem raise_rState (e : Status) (info : BitVec 64) (r : Result) (s : State) : (raise e info r s).rState = if isRetuneOpc s.sOp.opc ∧ leavesRetuneUnknown e then .err else s.rState := rfl
@[simp] theorem raise_rTs (e : Status) (info : BitVec 64) (r : Result) (s : State) : (raise e info r s).rTs = s.rTs := rfl
@[simp] theorem raise_rKind (e : Status) (info : BitVec 64) (r : Result) (s : State) : (raise e info r s).rKind = s.rKind := rfl
@[simp] theorem raise_env (e : Status) (info : BitVec 64) (r : Result) (s : State) : (raise e info r s).env = s.env := rfl

/-! The writes every accept step makes. -/

@[simp] theorem latch_cfg (d : OpDesc) (s : State) : (latch d s).cfg = s.cfg := rfl
@[simp] theorem latch_dState (d : OpDesc) (s : State) : (latch d s).dState = s.dState := rfl
@[simp] theorem latch_dReq (d : OpDesc) (s : State) : (latch d s).dReq = s.dReq := rfl
@[simp] theorem latch_dResp (d : OpDesc) (s : State) : (latch d s).dResp = s.dResp := rfl
@[simp] theorem latch_dLink (d : OpDesc) (s : State) : (latch d s).dLink = s.dLink := rfl
@[simp] theorem latch_sOp (d : OpDesc) (s : State) : (latch d s).sOp = d := rfl
@[simp] theorem latch_sFam (d : OpDesc) (s : State) : (latch d s).sFam = s.sFam := rfl
@[simp] theorem latch_sIdx (d : OpDesc) (s : State) : (latch d s).sIdx = 0 := rfl
@[simp] theorem latch_rState (d : OpDesc) (s : State) : (latch d s).rState = s.rState := rfl
@[simp] theorem latch_rTs (d : OpDesc) (s : State) : (latch d s).rTs = s.rTs := rfl
@[simp] theorem latch_rKind (d : OpDesc) (s : State) : (latch d s).rKind = s.rKind := rfl
@[simp] theorem latch_res (d : OpDesc) (s : State) : (latch d s).res = { s.res with valid := false } := rfl
@[simp] theorem latch_env (d : OpDesc) (s : State) : (latch d s).env = s.env := rfl

/-! `RETUNE_ACCEPT`. -/

@[simp] theorem retuneAccept_cfg (d : OpDesc) (s : State) : (retuneAccept d s).cfg = s.cfg := rfl
@[simp] theorem retuneAccept_dState (d : OpDesc) (s : State) : (retuneAccept d s).dState = s.dState := rfl
@[simp] theorem retuneAccept_dReq (d : OpDesc) (s : State) : (retuneAccept d s).dReq = s.dReq := rfl
@[simp] theorem retuneAccept_dResp (d : OpDesc) (s : State) : (retuneAccept d s).dResp = s.dResp := rfl
@[simp] theorem retuneAccept_dLink (d : OpDesc) (s : State) : (retuneAccept d s).dLink = s.dLink := rfl
@[simp] theorem retuneAccept_sOp (d : OpDesc) (s : State) : (retuneAccept d s).sOp = s.sOp := rfl
@[simp] theorem retuneAccept_sFam (d : OpDesc) (s : State) : (retuneAccept d s).sFam = s.sFam := rfl
@[simp] theorem retuneAccept_sIdx (d : OpDesc) (s : State) : (retuneAccept d s).sIdx = s.sIdx := rfl
@[simp] theorem retuneAccept_rState (d : OpDesc) (s : State) : (retuneAccept d s).rState = .scheduled := rfl
@[simp] theorem retuneAccept_rTs (d : OpDesc) (s : State) : (retuneAccept d s).rTs = d.fields.ts := rfl
@[simp] theorem retuneAccept_rKind (d : OpDesc) (s : State) : (retuneAccept d s).rKind = if d.opc = Opc.retune2 then .retune2 else .retune := rfl
@[simp] theorem retuneAccept_res (d : OpDesc) (s : State) : (retuneAccept d s).res = s.res := rfl
@[simp] theorem retuneAccept_env (d : OpDesc) (s : State) : (retuneAccept d s).env = s.env := rfl

/-! The accept step of `DRAIN`. -/

@[simp] theorem acceptDrain_cfg (d : OpDesc) (s : State) : (acceptDrain d s).cfg = s.cfg := rfl
@[simp] theorem acceptDrain_dState (d : OpDesc) (s : State) : (acceptDrain d s).dState = .recv := rfl
@[simp] theorem acceptDrain_dReq (d : OpDesc) (s : State) : (acceptDrain d s).dReq = s.dReq := rfl
@[simp] theorem acceptDrain_dResp (d : OpDesc) (s : State) : (acceptDrain d s).dResp = s.dResp := rfl
@[simp] theorem acceptDrain_dLink (d : OpDesc) (s : State) : (acceptDrain d s).dLink = s.dLink := rfl
@[simp] theorem acceptDrain_sOp (d : OpDesc) (s : State) : (acceptDrain d s).sOp = d := rfl
@[simp] theorem acceptDrain_sFam (d : OpDesc) (s : State) : (acceptDrain d s).sFam = s.sFam := rfl
@[simp] theorem acceptDrain_sIdx (d : OpDesc) (s : State) : (acceptDrain d s).sIdx = 0 := rfl
@[simp] theorem acceptDrain_rState (d : OpDesc) (s : State) : (acceptDrain d s).rState = s.rState := rfl
@[simp] theorem acceptDrain_rTs (d : OpDesc) (s : State) : (acceptDrain d s).rTs = s.rTs := rfl
@[simp] theorem acceptDrain_rKind (d : OpDesc) (s : State) : (acceptDrain d s).rKind = s.rKind := rfl
@[simp] theorem acceptDrain_res (d : OpDesc) (s : State) : (acceptDrain d s).res = { s.res with valid := false } := rfl
@[simp] theorem acceptDrain_env (d : OpDesc) (s : State) : (acceptDrain d s).env = s.env := rfl

/-! What reset writes. -/

@[simp] theorem clearRegisters_cfg (s : State) : (clearRegisters s).cfg = s.cfg := rfl
@[simp] theorem clearRegisters_dState (s : State) : (clearRegisters s).dState = .idle := rfl
@[simp] theorem clearRegisters_dReq (s : State) : (clearRegisters s).dReq = zeroPacket := rfl
@[simp] theorem clearRegisters_dResp (s : State) : (clearRegisters s).dResp = zeroPacket := rfl
@[simp] theorem clearRegisters_dLink (s : State) : (clearRegisters s).dLink = .sync := rfl
@[simp] theorem clearRegisters_sOp (s : State) : (clearRegisters s).sOp = {} := rfl
@[simp] theorem clearRegisters_sFam (s : State) : (clearRegisters s).sFam = .width .c8x8 := rfl
@[simp] theorem clearRegisters_sIdx (s : State) : (clearRegisters s).sIdx = 0 := rfl
@[simp] theorem clearRegisters_rState (s : State) : (clearRegisters s).rState = .idle := rfl
@[simp] theorem clearRegisters_rTs (s : State) : (clearRegisters s).rTs = 0 := rfl
@[simp] theorem clearRegisters_rKind (s : State) : (clearRegisters s).rKind = .retune := rfl
@[simp] theorem clearRegisters_res (s : State) : (clearRegisters s).res = {} := rfl
@[simp] theorem clearRegisters_env (s : State) : (clearRegisters s).env = s.env := rfl

/-! The reset step. -/

@[simp] theorem resetStep_cfg (s : State) : (resetStep s).cfg = s.cfg := rfl
@[simp] theorem resetStep_dState (s : State) : (resetStep s).dState = .idle := rfl
@[simp] theorem resetStep_dReq (s : State) : (resetStep s).dReq = zeroPacket := rfl
@[simp] theorem resetStep_dResp (s : State) : (resetStep s).dResp = zeroPacket := rfl
@[simp] theorem resetStep_dLink (s : State) : (resetStep s).dLink = .sync := rfl
@[simp] theorem resetStep_sOp (s : State) : (resetStep s).sOp = {} := rfl
@[simp] theorem resetStep_sFam (s : State) : (resetStep s).sFam = .width .c8x8 := rfl
@[simp] theorem resetStep_sIdx (s : State) : (resetStep s).sIdx = 0 := rfl
@[simp] theorem resetStep_rState (s : State) : (resetStep s).rState = .idle := rfl
@[simp] theorem resetStep_rTs (s : State) : (resetStep s).rTs = 0 := rfl
@[simp] theorem resetStep_rKind (s : State) : (resetStep s).rKind = .retune := rfl
@[simp] theorem resetStep_res (s : State) : (resetStep s).res = {} := rfl
@[simp] theorem resetStep_env (s : State) : (resetStep s).env = { s.env with trace := .reset :: s.env.trace } := rfl

/-! One recorded event. -/

@[simp] theorem recorded_cfg (e : Event) (s : State) : (recorded e s).cfg = s.cfg := rfl
@[simp] theorem recorded_dState (e : Event) (s : State) : (recorded e s).dState = s.dState := rfl
@[simp] theorem recorded_dReq (e : Event) (s : State) : (recorded e s).dReq = s.dReq := rfl
@[simp] theorem recorded_dResp (e : Event) (s : State) : (recorded e s).dResp = s.dResp := rfl
@[simp] theorem recorded_dLink (e : Event) (s : State) : (recorded e s).dLink = s.dLink := rfl
@[simp] theorem recorded_sOp (e : Event) (s : State) : (recorded e s).sOp = s.sOp := rfl
@[simp] theorem recorded_sFam (e : Event) (s : State) : (recorded e s).sFam = s.sFam := rfl
@[simp] theorem recorded_sIdx (e : Event) (s : State) : (recorded e s).sIdx = s.sIdx := rfl
@[simp] theorem recorded_rState (e : Event) (s : State) : (recorded e s).rState = s.rState := rfl
@[simp] theorem recorded_rTs (e : Event) (s : State) : (recorded e s).rTs = s.rTs := rfl
@[simp] theorem recorded_rKind (e : Event) (s : State) : (recorded e s).rKind = s.rKind := rfl
@[simp] theorem recorded_res (e : Event) (s : State) : (recorded e s).res = s.res := rfl
@[simp] theorem recorded_env (e : Event) (s : State) : (recorded e s).env = { s.env with trace := e :: s.env.trace } := rfl

/-! Other coming `Send` outcomes. -/

@[simp] theorem withSends_cfg (l : List SendOutcome) (s : State) : (withSends l s).cfg = s.cfg := rfl
@[simp] theorem withSends_dState (l : List SendOutcome) (s : State) : (withSends l s).dState = s.dState := rfl
@[simp] theorem withSends_dReq (l : List SendOutcome) (s : State) : (withSends l s).dReq = s.dReq := rfl
@[simp] theorem withSends_dResp (l : List SendOutcome) (s : State) : (withSends l s).dResp = s.dResp := rfl
@[simp] theorem withSends_dLink (l : List SendOutcome) (s : State) : (withSends l s).dLink = s.dLink := rfl
@[simp] theorem withSends_sOp (l : List SendOutcome) (s : State) : (withSends l s).sOp = s.sOp := rfl
@[simp] theorem withSends_sFam (l : List SendOutcome) (s : State) : (withSends l s).sFam = s.sFam := rfl
@[simp] theorem withSends_sIdx (l : List SendOutcome) (s : State) : (withSends l s).sIdx = s.sIdx := rfl
@[simp] theorem withSends_rState (l : List SendOutcome) (s : State) : (withSends l s).rState = s.rState := rfl
@[simp] theorem withSends_rTs (l : List SendOutcome) (s : State) : (withSends l s).rTs = s.rTs := rfl
@[simp] theorem withSends_rKind (l : List SendOutcome) (s : State) : (withSends l s).rKind = s.rKind := rfl
@[simp] theorem withSends_res (l : List SendOutcome) (s : State) : (withSends l s).res = s.res := rfl
@[simp] theorem withSends_env (l : List SendOutcome) (s : State) : (withSends l s).env = { s.env with sends := l } := rfl

/-! Other coming `Recv` outcomes. -/

@[simp] theorem withRecvs_cfg (l : List RecvOutcome) (s : State) : (withRecvs l s).cfg = s.cfg := rfl
@[simp] theorem withRecvs_dState (l : List RecvOutcome) (s : State) : (withRecvs l s).dState = s.dState := rfl
@[simp] theorem withRecvs_dReq (l : List RecvOutcome) (s : State) : (withRecvs l s).dReq = s.dReq := rfl
@[simp] theorem withRecvs_dResp (l : List RecvOutcome) (s : State) : (withRecvs l s).dResp = s.dResp := rfl
@[simp] theorem withRecvs_dLink (l : List RecvOutcome) (s : State) : (withRecvs l s).dLink = s.dLink := rfl
@[simp] theorem withRecvs_sOp (l : List RecvOutcome) (s : State) : (withRecvs l s).sOp = s.sOp := rfl
@[simp] theorem withRecvs_sFam (l : List RecvOutcome) (s : State) : (withRecvs l s).sFam = s.sFam := rfl
@[simp] theorem withRecvs_sIdx (l : List RecvOutcome) (s : State) : (withRecvs l s).sIdx = s.sIdx := rfl
@[simp] theorem withRecvs_rState (l : List RecvOutcome) (s : State) : (withRecvs l s).rState = s.rState := rfl
@[simp] theorem withRecvs_rTs (l : List RecvOutcome) (s : State) : (withRecvs l s).rTs = s.rTs := rfl
@[simp] theorem withRecvs_rKind (l : List RecvOutcome) (s : State) : (withRecvs l s).rKind = s.rKind := rfl
@[simp] theorem withRecvs_res (l : List RecvOutcome) (s : State) : (withRecvs l s).res = s.res := rfl
@[simp] theorem withRecvs_env (l : List RecvOutcome) (s : State) : (withRecvs l s).env = { s.env with recvs := l } := rfl

/-! Other offers. -/

@[simp] theorem withOffers_cfg (l : List OpDesc) (s : State) : (withOffers l s).cfg = s.cfg := rfl
@[simp] theorem withOffers_dState (l : List OpDesc) (s : State) : (withOffers l s).dState = s.dState := rfl
@[simp] theorem withOffers_dReq (l : List OpDesc) (s : State) : (withOffers l s).dReq = s.dReq := rfl
@[simp] theorem withOffers_dResp (l : List OpDesc) (s : State) : (withOffers l s).dResp = s.dResp := rfl
@[simp] theorem withOffers_dLink (l : List OpDesc) (s : State) : (withOffers l s).dLink = s.dLink := rfl
@[simp] theorem withOffers_sOp (l : List OpDesc) (s : State) : (withOffers l s).sOp = s.sOp := rfl
@[simp] theorem withOffers_sFam (l : List OpDesc) (s : State) : (withOffers l s).sFam = s.sFam := rfl
@[simp] theorem withOffers_sIdx (l : List OpDesc) (s : State) : (withOffers l s).sIdx = s.sIdx := rfl
@[simp] theorem withOffers_rState (l : List OpDesc) (s : State) : (withOffers l s).rState = s.rState := rfl
@[simp] theorem withOffers_rTs (l : List OpDesc) (s : State) : (withOffers l s).rTs = s.rTs := rfl
@[simp] theorem withOffers_rKind (l : List OpDesc) (s : State) : (withOffers l s).rKind = s.rKind := rfl
@[simp] theorem withOffers_res (l : List OpDesc) (s : State) : (withOffers l s).res = s.res := rfl
@[simp] theorem withOffers_env (l : List OpDesc) (s : State) : (withOffers l s).env = { s.env with offers := l } := rfl

/-! The ended operation of Safety.lean. -/

@[simp] theorem endedState_cfg (r : Result) (s : State) : (endedState r s).cfg = s.cfg := rfl
@[simp] theorem endedState_dState (r : Result) (s : State) : (endedState r s).dState = .idle := rfl
@[simp] theorem endedState_dReq (r : Result) (s : State) : (endedState r s).dReq = s.dReq := rfl
@[simp] theorem endedState_dResp (r : Result) (s : State) : (endedState r s).dResp = s.dResp := rfl
@[simp] theorem endedState_dLink (r : Result) (s : State) : (endedState r s).dLink = s.dLink := rfl
@[simp] theorem endedState_sOp (r : Result) (s : State) : (endedState r s).sOp = s.sOp := rfl
@[simp] theorem endedState_sFam (r : Result) (s : State) : (endedState r s).sFam = s.sFam := rfl
@[simp] theorem endedState_sIdx (r : Result) (s : State) : (endedState r s).sIdx = s.sIdx := rfl
@[simp] theorem endedState_rState (r : Result) (s : State) : (endedState r s).rState = s.rState := rfl
@[simp] theorem endedState_rTs (r : Result) (s : State) : (endedState r s).rTs = s.rTs := rfl
@[simp] theorem endedState_rKind (r : Result) (s : State) : (endedState r s).rKind = s.rKind := rfl
@[simp] theorem endedState_res (r : Result) (s : State) : (endedState r s).res = { r with valid := true, rstate := s.rState, link := s.dLink } := rfl
@[simp] theorem endedState_env (r : Result) (s : State) : (endedState r s).env = s.env := rfl

end Sys2Proof.Laws
end

