-- ==== Sys2Proof/Laws/Ops.lean ====
section
/-! SUPPORT. For each shared operation, once, everything it can do: the accept step, the send step, the receive step and its
handlers, and the step of the machine as one function without the decoder. -/

namespace Sys2Proof.Laws

open Machine

/-! Where the three kinds of row act. -/

theorem accept_rejected {s : State} (h : s.dState = .idle) (opc : BitVec 8) (o : OpFields) :
    accept opc o none s = .next (acceptInvalid ⟨opc, o⟩ s) := by
  simp [accept, h]

theorem accept_requested {s : State} (h : s.dState = .idle) (opc : BitVec 8) (o : OpFields) (fam : Family) (B : Packet) :
    accept opc o (some (fam, B)) s = .next (acceptRequest ⟨opc, o⟩ fam B s) := by
  simp [accept, h]

theorem accept_busy {s : State} (h : s.dState ≠ .idle) (opc : BitVec 8) (o : OpFields) (req : Option (Family × Packet)) :
    accept opc o req s = .next s := by
  unfold accept; split <;> simp_all

theorem execDrain_idle {s : State} (h : s.dState = .idle) (o : OpFields) :
    execDrain o s = .next (acceptDrain ⟨Opc.drain, o⟩ s) := by
  simp [execDrain, h]

theorem execDrain_busy {s : State} (h : s.dState ≠ .idle) (o : OpFields) : execDrain o s = .next s := by
  unfold execDrain; split <;> simp_all

theorem sendRequest_sending {s : State} (h : s.dState = .send) (B : Packet) :
    sendRequest B s = .next (sendStep { s with dReq := B }) := by
  simp [sendRequest, h]

theorem sendRequest_elsewhere {s : State} (h : s.dState ≠ .send) (B : Packet) : sendRequest B s = .next s := by
  unfold sendRequest; split <;> simp_all

theorem receive_receiving {s : State} (h : s.dState = .recv) (B : Packet) : receive B s = .next (takeResponse B s) := by
  simp [receive, h]

theorem receive_elsewhere {s : State} (h : s.dState ≠ .recv) (B : Packet) : receive B s = .next s := by
  unfold receive; split <;> simp_all

/-! The accept step. -/

/-- An accepted operation: what the accept step writes for every operation, and `RETUNE_ACCEPT` for a retune (R192, R301). -/
theorem acceptRequest_eq (d : OpDesc) (fam : Family) (B : Packet) (s : State) :
    acceptRequest d fam B s =
      { s with
        res := { s.res with valid := false }
        sOp := d
        sIdx := 0
        sFam := fam
        dReq := B
        dState := .send
        rState := if isRetuneOpc d.opc then .scheduled else s.rState
        rTs := if isRetuneOpc d.opc then d.fields.ts else s.rTs
        rKind := if isRetuneOpc d.opc then (if d.opc = Opc.retune2 then .retune2 else .retune) else s.rKind } := by
  unfold acceptRequest
  by_cases h : isRetuneOpc d.opc = true <;> simp [h, latch, retuneAccept]

/-- A rejected operation (R192, R327). -/
theorem acceptInvalid_eq (d : OpDesc) (s : State) :
    acceptInvalid d s =
      finish { status := .invalidArgument }
        { s with sOp := d, sIdx := 0, rState := if isRetuneOpc d.opc then .err else s.rState } := by
  unfold acceptInvalid raise latch finish
  by_cases h : d.opc = Opc.agcDcWrite <;> simp [h, leavesRetuneUnknown]

/-! Ending with an error. -/

/-- `raise` of an error that leaves a retune's outcome known, or outside a retune: `r_state` stays (R304, R321). -/
theorem raise_known {e : Status} {s : State} (h : isRetuneOpc s.sOp.opc = false ∨ leavesRetuneUnknown e = false)
    (info : BitVec 64) (r : Result) :
    raise e info r s = finish
      { r with
        status := e
        data := info
        idx := if s.sOp.opc = Opc.agcDcWrite then BitVec.ofNat 3 s.sIdx.val else r.idx } s := by
  unfold raise
  have : ¬(isRetuneOpc s.sOp.opc = true ∧ leavesRetuneUnknown e = true) := by
    rcases h with h | h <;> simp [h]
  simp only [this, if_false]

/-- `raise` of an error of R304 in a retune: `R_ERR`, and no index. -/
theorem raise_unknown {e : Status} {s : State} (h : isRetuneOpc s.sOp.opc = true) (he : leavesRetuneUnknown e = true)
    (info : BitVec 64) (r : Result) :
    raise e info r s = finish { r with status := e, data := info } { s with rState := .err } := by
  have hop : s.sOp.opc ≠ Opc.agcDcWrite := by
    intro h'; rw [h'] at h; exact absurd h (by decide)
  simp [raise, h, he, hop]

/-! The send step. -/

/-- Everything the send step can do (R193). -/
theorem sendStep_cases (s : State) :
    (s.env.sends = [] ∧ sendStep s = s) ∨
    (∃ rest, s.env.sends = .ok :: rest ∧
      sendStep s = { withSends rest (recorded (.sent s.cfg.cmdEp s.dReq .ok) s) with dState := .recv }) ∨
    (∃ e rest, s.env.sends = .terr e :: rest ∧
      sendStep s = transportFailed e (withSends rest (recorded (.sent s.cfg.cmdEp s.dReq (.terr e)) s))) := by
  unfold sendStep
  split
  · next h => exact .inl ⟨h, rfl⟩
  · next rest h => exact .inr (.inl ⟨rest, h, rfl⟩)
  · next e rest h => exact .inr (.inr ⟨e, rest, h, rfl⟩)

/-! The receive step. -/

/-- Everything `HANDLE_WC` can do (R222): a foreign magic, a clear success bit, a value out of range, or OK. -/
theorem handleWidth_cases (c : WidthClass) (B : Packet) (s : State) :
    (byteAt B 0 ≠ widthMagic c ∧ handleWidth c B s = raise .framingError ((byteAt B 0).setWidth 64) {} s) ∨
    (byteAt B 0 = widthMagic c ∧
      let w := flagWrite (byteAt B 2)
      let f := flagBit1 (byteAt B 2)
      let d := BitVec.ofNat 64 (memRead B (dataOff c) (dataWidth c))
      ((definesSuccess c = true ∧ f = false ∧
          handleWidth c B s = raise .operationFailed ((byteAt B 2).setWidth 64) { write := w } s) ∨
        (¬(definesSuccess c = true ∧ f = false) ∧
          ((∃ v, post s.sOp d { write := w, flag1 := f } = .error v ∧
              handleWidth c B s = raise .unexpectedValue v { write := w, flag1 := f } s) ∨
            ∃ r, post s.sOp d { write := w, flag1 := f } = .ok r ∧ handleWidth c B s = endOk r s)))) := by
  by_cases hm : byteAt B 0 = widthMagic c
  · refine .inr ⟨hm, ?_⟩
    cases hd : definesSuccess c <;> cases hf : flagBit1 (byteAt B 2) <;>
      cases hp : post s.sOp (BitVec.ofNat 64 (memRead B (dataOff c) (dataWidth c)))
        { write := flagWrite (byteAt B 2), flag1 := flagBit1 (byteAt B 2) } <;>
      simp_all [handleWidth, unpack]
  · exact .inl ⟨hm, by simp [handleWidth, unpack, hm]⟩

/-- The sequencer step before the last index (R247). -/
theorem handleAgc_advances {B : Packet} {s : State} (hm : byteAt B 0 = 0x42) (k : Fin 6) (hk : k.val = s.sIdx.val + 1) :
    handleAgc B s = { s with sIdx := k, dReq := agcRequest s.sOp.fields k, dState := .send } := by
  have h5 : s.sIdx.val < 5 := by omega
  have : (⟨s.sIdx.val + 1, by omega⟩ : Fin 6) = k := Fin.ext hk.symm
  simp [handleAgc, widthMagic, hm, h5, this]

/-- The sequencer step of the last index (R247). -/
theorem handleAgc_ends {B : Packet} {s : State} (hm : byteAt B 0 = 0x42) (hk : s.sIdx.val = 5) :
    handleAgc B s = endOk { flag1 := flagBit1 (byteAt B 2), idx := 6 } s := by
  simp [handleAgc, widthMagic, hm, hk]

/-- The sequencer step with a foreign magic (R247). -/
theorem handleAgc_foreign {B : Packet} {s : State} (hm : byteAt B 0 ≠ 0x42) :
    handleAgc B s = raise .framingError ((byteAt B 0).setWidth 64) {} s := by
  unfold handleAgc
  rw [if_pos (by exact hm)]

/-- Everything `HANDLE_RETUNE` can do (R303). -/
theorem handleRetune_cases (reply : Except Byte RetuneReply) (s : State) :
    (∃ m, reply = .error m ∧
      handleRetune reply s = raise .framingError (m.setWidth 64) {} { s with rState := .err }) ∨
    ∃ u, reply = .ok u ∧
      let r : Result := { vcocap := u.vcocap, flag1 := u.success }
      ((u.success = true ∧ handleRetune reply s = endOk { r with duration := u.duration } { s with rState := .done }) ∨
        (u.success = false ∧ s.rTs = s.cfg.retuneNow ∧
          handleRetune reply s = raise .tuneFailure s.rTs r { s with rState := .fail }) ∨
        (u.success = false ∧ s.rTs ≠ s.cfg.retuneNow ∧
          handleRetune reply s = raise .queueFull s.rTs r { s with rState := .qfull })) := by
  cases reply with
  | error m => exact .inl ⟨m, rfl, rfl⟩
  | ok u =>
    refine .inr ⟨u, rfl, ?_⟩
    cases hu : u.success
    · by_cases ht : s.rTs = s.cfg.retuneNow <;> simp [handleRetune, settleRetune, interpretRetune, hu, ht]
    · simp [handleRetune, settleRetune, interpretRetune, hu]

/-! Which handler a response goes to (R194). -/

theorem handle_agc {s : State} (h : s.sOp.opc = Opc.agcDcWrite) (B : Packet) : handle B s = handleAgc B s := by
  rw [handle, if_pos h]

theorem handle_width {c : WidthClass} {s : State} (h : s.sOp.opc ≠ Opc.agcDcWrite) (hf : s.sFam = .width c) (B : Packet) :
    handle B s = handleWidth c B s := by
  rw [handle, if_neg h, hf]

theorem handle_retune {s : State} (h : s.sOp.opc ≠ Opc.agcDcWrite) (hf : s.sFam = .retune) (B : Packet) :
    handle B s = handleRetune (unpackRetune B) s := by
  rw [handle, if_neg h, hf]

theorem handle_retune2 {s : State} (h : s.sOp.opc ≠ Opc.agcDcWrite) (hf : s.sFam = .retune2) (B : Packet) :
    handle B s = handleRetune (unpackRetune2 B) s := by
  rw [handle, if_neg h, hf]

theorem takeResponse_handle {s : State} (h : s.sOp.opc ≠ Opc.drain) (B : Packet) :
    takeResponse B s = handle B { s with dResp := B } := by
  rw [takeResponse, if_neg h]

/-- `HANDLE` writes none of these, whatever it answers (R194, R222, R247, R303). -/
theorem handle_keeps (B : Packet) (s : State) :
    (handle B s).cfg = s.cfg ∧ (handle B s).env = s.env ∧ (handle B s).sOp = s.sOp ∧ (handle B s).sFam = s.sFam ∧
      (handle B s).rTs = s.rTs ∧ (handle B s).rKind = s.rKind ∧ (handle B s).dLink = s.dLink ∧
      (handle B s).dResp = s.dResp := by
  unfold handle
  split
  · unfold handleAgc
    split
    · exact ⟨rfl, rfl, rfl, rfl, rfl, rfl, rfl, rfl⟩
    · split <;> exact ⟨rfl, rfl, rfl, rfl, rfl, rfl, rfl, rfl⟩
  · have hr : ∀ reply, (handleRetune reply s).cfg = s.cfg ∧ (handleRetune reply s).env = s.env ∧
        (handleRetune reply s).sOp = s.sOp ∧ (handleRetune reply s).sFam = s.sFam ∧
        (handleRetune reply s).rTs = s.rTs ∧ (handleRetune reply s).rKind = s.rKind ∧
        (handleRetune reply s).dLink = s.dLink ∧ (handleRetune reply s).dResp = s.dResp := by
      intro reply
      rcases handleRetune_cases reply s with ⟨_, _, h⟩ | ⟨_, _, ⟨_, h⟩ | ⟨_, _, h⟩ | ⟨_, _, h⟩⟩ <;> rw [h] <;>
        exact ⟨rfl, rfl, rfl, rfl, rfl, rfl, rfl, rfl⟩
    split
    · next c _ =>
      rcases handleWidth_cases c B s with ⟨_, h⟩ | ⟨_, ⟨_, _, h⟩ | ⟨_, ⟨_, _, h⟩ | ⟨_, _, h⟩⟩⟩ <;> rw [h] <;>
        exact ⟨rfl, rfl, rfl, rfl, rfl, rfl, rfl, rfl⟩
    · exact hr _
    · exact hr _

/-! The step of the machine. -/

/-- The accept step of any descriptor (R192). -/
def acceptStep (d : OpDesc) (s : State) : State :=
  if d.opc = Opc.drain then acceptDrain d s
  else
    match requestOf s.cfg d with
    | none => acceptInvalid d s
    | some (fam, B) => acceptRequest d fam B s

/-- The receive step with any outcome of `Recv` (R194). -/
def receiveStep (out : RecvOutcome) (s : State) : State :=
  match out with
  | .terr e => transportFailed e s
  | .ok len B => if s.sOp.opc = Opc.drain then drainDone s else if len ≠ s.cfg.respLen then lengthFailed len s else takeResponse B s

theorem receiveStep_drain {s : State} (h : s.sOp.opc = Opc.drain) (len : BitVec 8) (B : Packet) :
    receiveStep (.ok len B) s = drainDone s := by
  simp [receiveStep, h]

theorem receiveStep_length {s : State} {len : BitVec 8} (h : s.sOp.opc ≠ Opc.drain) (hl : len ≠ s.cfg.respLen) (B : Packet) :
    receiveStep (.ok len B) s = lengthFailed len s := by
  simp [receiveStep, h, hl]

theorem receiveStep_handle {s : State} {len : BitVec 8} (h : s.sOp.opc ≠ Opc.drain) (hl : len = s.cfg.respLen) (B : Packet) :
    receiveStep (.ok len B) s = handle B { s with dResp := B } := by
  simp [receiveStep, takeResponse, h, hl]

/-- The enabled step (R205). -/
def enabledStep (s : State) : State :=
  match s.dState with
  | .idle =>
    match s.env.offers with
    | [] => s
    | d :: rest => acceptStep d (withOffers rest s)
  | .send => sendStep s
  | .recv =>
    match s.env.recvs with
    | [] => s
    | out :: rest => receiveStep out (withRecvs rest (recorded (.received s.cfg.respEp out) s))

theorem enabledStep_offer {s : State} {d : OpDesc} {rest : List OpDesc} (h : s.dState = .idle) (ho : s.env.offers = d :: rest) :
    enabledStep s = acceptStep d (withOffers rest s) := by
  rw [enabledStep, h, ho]

theorem enabledStep_no_offer {s : State} (h : s.dState = .idle) (ho : s.env.offers = []) : enabledStep s = s := by
  rw [enabledStep, h, ho]

theorem enabledStep_send {s : State} (h : s.dState = .send) : enabledStep s = sendStep s := by
  rw [enabledStep, h]

theorem enabledStep_response {s : State} {out : RecvOutcome} {rest : List RecvOutcome} (h : s.dState = .recv)
    (hr : s.env.recvs = out :: rest) :
    enabledStep s = receiveStep out (withRecvs rest (recorded (.received s.cfg.respEp out) s)) := by
  rw [enabledStep, h, hr]

theorem enabledStep_no_response {s : State} (h : s.dState = .recv) (hr : s.env.recvs = []) : enabledStep s = s := by
  rw [enabledStep, h, hr]

/-- `s` with the coming reset inputs. -/
def withResets (l : List Bool) (s : State) : State := { s with env := { s.env with resetIn := l } }

/-- The step of an instantiable machine, without the decoder (R205, R350). -/
def nextState (s : State) : State :=
  match s.env.resetIn with
  | [] => enabledStep s
  | false :: rest => enabledStep (withResets rest s)
  | true :: rest => resetStep (withResets rest s)

/-- A trigger descriptor's row has that descriptor as its image, or the channel is in no domain (R221, R232). -/
theorem decodeTrig_cases (o : OpFields) (tx rx : OpFields → Instr) :
    decodeTrig o tx rx = .ok (tx o) ∨ decodeTrig o tx rx = .ok (rx o) ∨
      (decodeTrig o tx rx = .error (.badChannel o.chan) ∧ chanOk o.chan = false) := by
  unfold decodeTrig
  by_cases h1 : o.chan = chanTx
  · exact .inl (if_pos h1)
  · rw [if_neg h1]
    by_cases h2 : o.chan = chanRx
    · exact .inr (.inl (if_pos h2))
    · exact .inr (.inr ⟨if_neg h2, by simp [chanOk, h1, h2]⟩)

/-- A descriptor's instruction has that descriptor as its image. -/
theorem encode_of_decodeOp {d : OpDesc} {i : Instr} (h : decode (.op d) = .ok i) : encode i = .op d := by
  obtain ⟨opc, o⟩ := d
  simp only [decode, decodeOp] at h
  split at h
  case h_49 => cases h
  case h_12 => rcases decodeTrig_cases o .trigReadTx .trigReadRx with ht | ht | ⟨ht, -⟩ <;> rw [ht] at h <;> cases h <;> rfl
  case h_13 => rcases decodeTrig_cases o .trigWriteTx .trigWriteRx with ht | ht | ⟨ht, -⟩ <;> rw [ht] at h <;> cases h <;> rfl
  all_goals (cases h; rfl)

/-- A descriptor that is no instruction is INVALID, and no drain (R221). -/
theorem requestOf_of_error {d : OpDesc} {e : DecodeError} (h : decode (.op d) = .error e) (cfg : Cfg) :
    d.opc ≠ Opc.drain ∧ requestOf cfg d = none := by
  obtain ⟨opc, o⟩ := d
  simp only [decode, decodeOp] at h
  split at h
  case h_49 =>
    refine ⟨by assumption, ?_⟩
    unfold requestOf
    dsimp only
    split <;> first | rfl | contradiction
  case h_12 =>
    rcases decodeTrig_cases o .trigReadTx .trigReadRx with ht | ht | ⟨-, ht⟩
    · rw [ht] at h; cases h
    · rw [ht] at h; cases h
    · exact ⟨by dsimp only; decide, by show trigRequest cfg false 0 o = none; simp [trigRequest, ht]⟩
  case h_13 =>
    rcases decodeTrig_cases o .trigWriteTx .trigWriteRx with ht | ht | ⟨-, ht⟩
    · rw [ht] at h; cases h
    · rw [ht] at h; cases h
    · exact ⟨by dsimp only; decide, by show trigRequest cfg true o.data.toNat o = none; simp [trigRequest, ht]⟩
  all_goals cases h

/-- A buffer's instruction has that buffer as its image. -/
theorem encode_of_decodeResponse {B : Packet} {i : Instr} (h : decode (.response B) = .ok i) : encode i = .response B := by
  have hf : ∀ m, byteAt B 0 = m → frame m (bodyOf B) = B := fun m hm => hm ▸ frame_bodyOf B
  simp only [decode, decodeResponse] at h
  split at h
  case h_8 => cases h
  all_goals
    next hm =>
      cases h
      exact congrArg Image.response (hf _ hm)

/-- What running a fetched input answers. -/
def runFetched : Fetched → Host.Outcome State Fault Refusal
  | .run i t => exec i t
  | .took t => .next t

theorem fetchOffer_eq {s : State} (hd : s.dState = .idle) :
    runFetched (fetchOffer s) = .next
      (match s.env.offers with
      | [] => s
      | d :: rest => acceptStep d (withOffers rest s)) := by
  unfold fetchOffer
  cases s.env.offers with
  | nil => rfl
  | cons d rest =>
    have hs : (withOffers rest s).dState = .idle := hd
    change runFetched (match decode (.op d) with
      | .ok i => .run i (withOffers rest s)
      | .error _ => .took (acceptInvalid d (withOffers rest s))) = .next (acceptStep d (withOffers rest s))
    cases hi : decode (.op d) with
    | error e =>
      obtain ⟨h1, h2⟩ := requestOf_of_error hi (withOffers rest s).cfg
      rw [acceptStep, if_neg h1, h2]
      rfl
    | ok i =>
      have he := encode_of_decodeOp hi
      change exec i (withOffers rest s) = _
      by_cases hdr : d.opc = Opc.drain
      · rw [exec_of_drain he hdr, execDrain_idle hs, acceptStep, if_pos hdr, ← hdr]
      · rw [exec_of_op he hdr, acceptStep, if_neg hdr]
        cases requestOf (withOffers rest s).cfg d with
        | none => exact accept_rejected hs _ _
        | some p => exact accept_requested hs _ _ _ _

theorem fetchRequest_eq {s : State} (hd : s.dState = .send) : runFetched (fetchRequest s) = .next (sendStep s) := by
  unfold fetchRequest
  cases decode (.request s.dReq) with
  | error e => rfl
  | ok i =>
    by_cases he : encode i = .request s.dReq
    · simp only [he, if_true, runFetched]
      rw [exec_of_request he, sendRequest_sending hd]
    · simp only [he, if_false, runFetched]

theorem fetchResponse_eq {s : State} (hd : s.dState = .recv) :
    runFetched (fetchResponse s) = .next
      (match s.env.recvs with
      | [] => s
      | out :: rest => receiveStep out (withRecvs rest (recorded (.received s.cfg.respEp out) s))) := by
  unfold fetchResponse
  cases s.env.recvs with
  | nil => rfl
  | cons out rest =>
    cases out with
    | terr e => rfl
    | ok len B =>
      let t := withRecvs rest (recorded (.received s.cfg.respEp (.ok len B)) s)
      have ht : t.dState = .recv := hd
      change runFetched (if t.sOp.opc = Opc.drain then .took (drainDone t)
        else if len ≠ t.cfg.respLen then .took (lengthFailed len t)
        else match decode (.response B) with
          | .ok i => .run i t
          | .error _ => .took (takeResponse B t)) = .next (receiveStep (.ok len B) t)
      unfold receiveStep
      by_cases hdr : t.sOp.opc = Opc.drain
      · simp only [hdr, if_true, runFetched]
      · by_cases hl : len = t.cfg.respLen
        · simp only [hdr, if_false, hl, ne_eq, not_true]
          cases hi : decode (.response B) with
          | error e => rfl
          | ok i =>
            change exec i t = _
            rw [exec_of_response (encode_of_decodeResponse hi), receive_receiving ht]
        · simp only [hdr, if_false, hl, ne_eq, not_false_eq_true, if_true, runFetched]

/-- The enabled step is the instruction fetched (R205). -/
theorem fetchEnabled_eq (s : State) : runFetched (fetchEnabled s) = .next (enabledStep s) := by
  unfold fetchEnabled enabledStep
  cases h : s.dState
  · exact fetchOffer_eq h
  · exact fetchRequest_eq h
  · exact fetchResponse_eq h

/-- Everything a step can do (R26, R205, R350). -/
theorem step_eq (s : State) :
    step s = if s.cfg.respLen = 16 then .next (nextState s) else .refused .responseLengthNotSixteen := by
  change (if instantiable s then runFetched (fetch s) else .refused .responseLengthNotSixteen) = _
  unfold instantiable
  by_cases h : s.cfg.respLen = 16
  · simp only [h, Config.respLen, beq_self_eq_true, if_true]
    unfold fetch nextState
    cases hr : s.env.resetIn with
    | nil => exact fetchEnabled_eq s
    | cons b rest => cases b with
      | false => exact fetchEnabled_eq (withResets rest s)
      | true => rfl
  · have hb : (s.cfg.respLen == Config.respLen) = false := by simpa [Config.respLen] using h
    rw [hb, if_neg h]
    rfl

/-- A run of one step more. -/
theorem run_succ {s t : State} (h : step s = .next t) (n : Nat) :
    Host.Core.run Sys2Proof.core (n + 1) s = Host.Core.run Sys2Proof.core n t := by
  have h' : Sys2Proof.core.step s = .next t := h
  simp only [Host.Core.run, h']

end Sys2Proof.Laws
end

