-- ==== Sys2Proof/Laws/PerInstr.lean ====
section
/-! SUPPORT. Per-instruction lemmas. Family `RowOpcode`: an operation's image carries the operation code R113 gives its row;
the code is written out here again, row by row, from opcode_table.json. -/

namespace Sys2Proof.Laws

/-- The operation code of a row of opcode_table.json; the packet rows have none (R113, R114). -/
def rowOpcode : Instr → Option (BitVec 8)
  | .acc8x8 _ => some 0x10
  | .acc8x16 _ => some 0x11
  | .acc8x32 _ => some 0x12
  | .acc16x64 _ => some 0x13
  | .acc32x32 _ => some 0x14
  | .lmsRead _ => some 0x20
  | .lmsWrite _ => some 0x21
  | .si5338Read _ => some 0x22
  | .si5338Write _ => some 0x23
  | .tamerGet _ => some 0x24
  | .tamerSet _ => some 0x25
  | .trigReadTx _ => some 0x26
  | .trigReadRx _ => some 0x26
  | .trigWriteTx _ => some 0x27
  | .trigWriteRx _ => some 0x27
  | .vctcxoDacRead _ => some 0x30
  | .vctcxoDacWrite _ => some 0x31
  | .iqcorrRead _ => some 0x32
  | .iqcorrWrite _ => some 0x33
  | .agcDcWrite _ => some 0x34
  | .ad56x1Read _ => some 0x35
  | .ad56x1Write _ => some 0x36
  | .ina219Read _ => some 0x37
  | .ina219Write _ => some 0x38
  | .fpgaVersionRead _ => some 0x40
  | .configRead _ => some 0x41
  | .configWrite _ => some 0x42
  | .xb200Read _ => some 0x43
  | .xb200Write _ => some 0x44
  | .rffeRead _ => some 0x45
  | .rffeWrite _ => some 0x46
  | .adf400xRead _ => some 0x47
  | .adf400xWrite _ => some 0x48
  | .fastlockRead _ => some 0x49
  | .fastlockWrite _ => some 0x4A
  | .ad9361Read _ => some 0x50
  | .ad9361Write _ => some 0x51
  | .rficRead _ => some 0x52
  | .rficWrite _ => some 0x53
  | .expgpioRead _ => some 0x60
  | .expgpioWrite _ => some 0x61
  | .expgpioDirRead _ => some 0x62
  | .expgpioDirWrite _ => some 0x63
  | .adiAxiRead _ => some 0x64
  | .adiAxiWrite _ => some 0x65
  | .wishboneRead _ => some 0x66
  | .wishboneWrite _ => some 0x67
  | .retune _ => some 0x70
  | .retune2 _ => some 0x71
  | .drain _ => some 0x7F
  | _ => none

/-- The image of `i` is a descriptor with its row's operation code, or a packet where the row has none. -/
def RowOpcode.Statement (i : Instr) : Prop :=
  match encode i with
  | .op d => rowOpcode i = some d.opc
  | .request _ | .response _ => rowOpcode i = none

theorem RowOpcode.req8x8Rd (t : Byte) (x : BitVec 8) (d : BitVec 8) : RowOpcode.Statement (.req8x8Rd t x d) := rfl
theorem RowOpcode.req8x8Wr (t : Byte) (x : BitVec 8) (d : BitVec 8) : RowOpcode.Statement (.req8x8Wr t x d) := rfl
theorem RowOpcode.req8x16Rd (t : Byte) (x : BitVec 8) (d : BitVec 16) : RowOpcode.Statement (.req8x16Rd t x d) := rfl
theorem RowOpcode.req8x16Wr (t : Byte) (x : BitVec 8) (d : BitVec 16) : RowOpcode.Statement (.req8x16Wr t x d) := rfl
theorem RowOpcode.req8x32Rd (t : Byte) (x : BitVec 8) (d : BitVec 32) : RowOpcode.Statement (.req8x32Rd t x d) := rfl
theorem RowOpcode.req8x32Wr (t : Byte) (x : BitVec 8) (d : BitVec 32) : RowOpcode.Statement (.req8x32Wr t x d) := rfl
theorem RowOpcode.req16x64Rd (t : Byte) (x : BitVec 16) (d : BitVec 64) : RowOpcode.Statement (.req16x64Rd t x d) := rfl
theorem RowOpcode.req16x64Wr (t : Byte) (x : BitVec 16) (d : BitVec 64) : RowOpcode.Statement (.req16x64Wr t x d) := rfl
theorem RowOpcode.req32x32Rd (t : Byte) (x : BitVec 32) (d : BitVec 32) : RowOpcode.Statement (.req32x32Rd t x d) := rfl
theorem RowOpcode.req32x32Wr (t : Byte) (x : BitVec 32) (d : BitVec 32) : RowOpcode.Statement (.req32x32Wr t x d) := rfl
theorem RowOpcode.reqRetune (ts : BitVec 64) (ni : BitVec 9) (nf : BitVec 23) (fb bb xb : Byte) : RowOpcode.Statement (.reqRetune ts ni nf fb bb xb) := rfl
theorem RowOpcode.reqRetune2 (ts : BitVec 64) (np : BitVec 16) (rp pb sp : Byte) : RowOpcode.Statement (.reqRetune2 ts np rp pb sp) := rfl
theorem RowOpcode.rsp8x8 (b : Body) : RowOpcode.Statement (.rsp8x8 b) := rfl
theorem RowOpcode.rsp8x16 (b : Body) : RowOpcode.Statement (.rsp8x16 b) := rfl
theorem RowOpcode.rsp8x32 (b : Body) : RowOpcode.Statement (.rsp8x32 b) := rfl
theorem RowOpcode.rsp16x64 (b : Body) : RowOpcode.Statement (.rsp16x64 b) := rfl
theorem RowOpcode.rsp32x32 (b : Body) : RowOpcode.Statement (.rsp32x32 b) := rfl
theorem RowOpcode.rspRetune (b : Body) : RowOpcode.Statement (.rspRetune b) := rfl
theorem RowOpcode.rspRetune2 (b : Body) : RowOpcode.Statement (.rspRetune2 b) := rfl
theorem RowOpcode.acc8x8 (o : OpFields) : RowOpcode.Statement (.acc8x8 o) := rfl
theorem RowOpcode.acc8x16 (o : OpFields) : RowOpcode.Statement (.acc8x16 o) := rfl
theorem RowOpcode.acc8x32 (o : OpFields) : RowOpcode.Statement (.acc8x32 o) := rfl
theorem RowOpcode.acc16x64 (o : OpFields) : RowOpcode.Statement (.acc16x64 o) := rfl
theorem RowOpcode.acc32x32 (o : OpFields) : RowOpcode.Statement (.acc32x32 o) := rfl
theorem RowOpcode.lmsRead (o : OpFields) : RowOpcode.Statement (.lmsRead o) := rfl
theorem RowOpcode.lmsWrite (o : OpFields) : RowOpcode.Statement (.lmsWrite o) := rfl
theorem RowOpcode.si5338Read (o : OpFields) : RowOpcode.Statement (.si5338Read o) := rfl
theorem RowOpcode.si5338Write (o : OpFields) : RowOpcode.Statement (.si5338Write o) := rfl
theorem RowOpcode.tamerGet (o : OpFields) : RowOpcode.Statement (.tamerGet o) := rfl
theorem RowOpcode.tamerSet (o : OpFields) : RowOpcode.Statement (.tamerSet o) := rfl
theorem RowOpcode.trigReadTx (o : OpFields) : RowOpcode.Statement (.trigReadTx o) := rfl
theorem RowOpcode.trigReadRx (o : OpFields) : RowOpcode.Statement (.trigReadRx o) := rfl
theorem RowOpcode.trigWriteTx (o : OpFields) : RowOpcode.Statement (.trigWriteTx o) := rfl
theorem RowOpcode.trigWriteRx (o : OpFields) : RowOpcode.Statement (.trigWriteRx o) := rfl
theorem RowOpcode.vctcxoDacRead (o : OpFields) : RowOpcode.Statement (.vctcxoDacRead o) := rfl
theorem RowOpcode.vctcxoDacWrite (o : OpFields) : RowOpcode.Statement (.vctcxoDacWrite o) := rfl
theorem RowOpcode.iqcorrRead (o : OpFields) : RowOpcode.Statement (.iqcorrRead o) := rfl
theorem RowOpcode.iqcorrWrite (o : OpFields) : RowOpcode.Statement (.iqcorrWrite o) := rfl
theorem RowOpcode.agcDcWrite (o : OpFields) : RowOpcode.Statement (.agcDcWrite o) := rfl
theorem RowOpcode.ad56x1Read (o : OpFields) : RowOpcode.Statement (.ad56x1Read o) := rfl
theorem RowOpcode.ad56x1Write (o : OpFields) : RowOpcode.Statement (.ad56x1Write o) := rfl
theorem RowOpcode.ina219Read (o : OpFields) : RowOpcode.Statement (.ina219Read o) := rfl
theorem RowOpcode.ina219Write (o : OpFields) : RowOpcode.Statement (.ina219Write o) := rfl
theorem RowOpcode.fpgaVersionRead (o : OpFields) : RowOpcode.Statement (.fpgaVersionRead o) := rfl
theorem RowOpcode.configRead (o : OpFields) : RowOpcode.Statement (.configRead o) := rfl
theorem RowOpcode.configWrite (o : OpFields) : RowOpcode.Statement (.configWrite o) := rfl
theorem RowOpcode.xb200Read (o : OpFields) : RowOpcode.Statement (.xb200Read o) := rfl
theorem RowOpcode.xb200Write (o : OpFields) : RowOpcode.Statement (.xb200Write o) := rfl
theorem RowOpcode.rffeRead (o : OpFields) : RowOpcode.Statement (.rffeRead o) := rfl
theorem RowOpcode.rffeWrite (o : OpFields) : RowOpcode.Statement (.rffeWrite o) := rfl
theorem RowOpcode.adf400xRead (o : OpFields) : RowOpcode.Statement (.adf400xRead o) := rfl
theorem RowOpcode.adf400xWrite (o : OpFields) : RowOpcode.Statement (.adf400xWrite o) := rfl
theorem RowOpcode.fastlockRead (o : OpFields) : RowOpcode.Statement (.fastlockRead o) := rfl
theorem RowOpcode.fastlockWrite (o : OpFields) : RowOpcode.Statement (.fastlockWrite o) := rfl
theorem RowOpcode.ad9361Read (o : OpFields) : RowOpcode.Statement (.ad9361Read o) := rfl
theorem RowOpcode.ad9361Write (o : OpFields) : RowOpcode.Statement (.ad9361Write o) := rfl
theorem RowOpcode.rficRead (o : OpFields) : RowOpcode.Statement (.rficRead o) := rfl
theorem RowOpcode.rficWrite (o : OpFields) : RowOpcode.Statement (.rficWrite o) := rfl
theorem RowOpcode.expgpioRead (o : OpFields) : RowOpcode.Statement (.expgpioRead o) := rfl
theorem RowOpcode.expgpioWrite (o : OpFields) : RowOpcode.Statement (.expgpioWrite o) := rfl
theorem RowOpcode.expgpioDirRead (o : OpFields) : RowOpcode.Statement (.expgpioDirRead o) := rfl
theorem RowOpcode.expgpioDirWrite (o : OpFields) : RowOpcode.Statement (.expgpioDirWrite o) := rfl
theorem RowOpcode.adiAxiRead (o : OpFields) : RowOpcode.Statement (.adiAxiRead o) := rfl
theorem RowOpcode.adiAxiWrite (o : OpFields) : RowOpcode.Statement (.adiAxiWrite o) := rfl
theorem RowOpcode.wishboneRead (o : OpFields) : RowOpcode.Statement (.wishboneRead o) := rfl
theorem RowOpcode.wishboneWrite (o : OpFields) : RowOpcode.Statement (.wishboneWrite o) := rfl
theorem RowOpcode.retune (o : OpFields) : RowOpcode.Statement (.retune o) := rfl
theorem RowOpcode.retune2 (o : OpFields) : RowOpcode.Statement (.retune2 o) := rfl
theorem RowOpcode.drain (o : OpFields) : RowOpcode.Statement (.drain o) := rfl

end Sys2Proof.Laws
end

