-- ==== Sys2Proof/Tests/Slice0.lean ====
section
/-! SUPPORT. The model's own tests, each one step on a small state. Expected values are the vectors of
95_test_vectors.md (their ids stand beside them) or the examples of the rules named; the configuration is the one that file
uses. The last part gives, for every statement with hypotheses, states and operands that meet them. -/

namespace Sys2Proof.Tests

open Sys2Proof.Machine

/-- The configuration of 95_test_vectors.md, with two endpoint ids. -/
def cfg0 : Cfg := ⟨0x02, 0x82, 16, 0, 0, #v[0, 0, 0]⟩

/-- The reset state under that configuration. -/
def idle0 : State := { State.reset with cfg := cfg0 }

/-- `D_SEND` with the operation `d` of the family `fam` in flight and `B` in `d_req`. -/
def sending (d : OpDesc) (fam : Family) (B : Packet) (outs : List SendOutcome) : State :=
  { idle0 with dState := .send, sOp := d, sFam := fam, dReq := B, env := { sends := outs } }

/-- `D_RECV` with the operation `d` of the family `fam` in flight. -/
def receiving (d : OpDesc) (fam : Family) (outs : List RecvOutcome) : State :=
  { idle0 with dState := .recv, sOp := d, sFam := fam, env := { recvs := outs } }

/-- `D_RECV` with a retune in flight. -/
def retuning (opc : BitVec 8) (fam : Family) (kind : RKind) (ts : BitVec 64) (outs : List RecvOutcome) : State :=
  { receiving ⟨opc, { ts := ts }⟩ fam outs with rState := .scheduled, rTs := ts, rKind := kind }

/-- The state an outcome goes on in. -/
def nextOf (r : Host.Outcome State Fault Refusal) : Option State :=
  match r with
  | .next t => some t
  | .fault _ | .refused _ => none

/-- The descriptor decodes to `c o`, and that instruction's accept step leaves `st` and, in `d_req`, `B`. -/
def accepts (opc : BitVec 8) (c : OpFields → Instr) (o : OpFields) (st : DState) (B : Packet) : Bool :=
  decide (decode (.op ⟨opc, o⟩) = .ok (c o)) &&
    (nextOf (exec (c o) idle0)).any (fun t => t.dState == st && t.dReq == B && t.sOp == ⟨opc, o⟩ && !t.res.valid)

/-- The packet decodes to `i` as a request, and that instruction's send step hands it to the transport. -/
def sendsOut (B : Packet) (i : Instr) : Bool :=
  decide (decode (.request B) = .ok i) &&
    (nextOf (exec i (sending ⟨0x10, {}⟩ (.width .c8x8) zeroPacket [.ok]))).any (fun t =>
      t.dState == .recv && t.env.trace == [.sent 0x02 B .ok])

/-- The accept step of an operation `DECODE` rejects: status, info, `r_state`, and no packet. -/
def rejects (i : Instr) (r : RState) : Bool :=
  (nextOf (exec i idle0)).any (fun t =>
    t.dState == .idle && t.res.status == .invalidArgument && t.res.data == 0 && t.rState == r && t.dReq == zeroPacket)

/-- The result registers after the buffer `B` was received, where the operation has ended. -/
def resultOf (d : OpDesc) (fam : Family) (B : Packet) : Option Result :=
  match decode (.response B) with
  | .ok i => ((nextOf (exec i (receiving d fam []))).filter (fun t => t.dState == .idle)).map State.res
  | .error _ => none

/-- Status, data and the two flags of a result. -/
def verdictOf (d : OpDesc) (fam : Family) (B : Packet) : Option (Status × BitVec 64 × Bool × Bool) :=
  (resultOf d fam B).map (fun r => (r.status, r.data, r.write, r.flag1))

/-! ## Well-formed terms: the check refuses a trigger row whose descriptor names the other channel, or none -/

theorem test_wellformed_refuses_trig_read_tx_of_rx : (Instr.trigReadTx { chan := 0 }).wellFormed = false := by decide

theorem test_wellformed_refuses_trig_read_rx_of_tx : (Instr.trigReadRx { chan := 1 }).wellFormed = false := by decide

theorem test_wellformed_refuses_trig_write_tx_of_rx : (Instr.trigWriteTx { chan := 0 }).wellFormed = false := by decide

theorem test_wellformed_refuses_trig_write_rx_of_none : (Instr.trigWriteRx { chan := 2 }).wellFormed = false := by decide

theorem test_wellformed_accepts_each_channel :
    (Instr.trigReadTx { chan := 1 }).wellFormed = true ∧ (Instr.trigReadRx { chan := 0 }).wellFormed = true ∧
      (Instr.trigWriteTx { chan := 1 }).wellFormed = true ∧ (Instr.trigWriteRx { chan := 0 }).wellFormed = true := by decide

/-! ## Request rows (95 section 2.1 and 3.1) -/

/-- The request of `LMS_READ a=0x12` (95 section 4). -/
theorem test_8x8_rd : sendsOut #v[0x41, 0, 0, 0, 0x12, 0, 0, 0, 0, 0, 0, 0, 0, 0, 0, 0] (.req8x8Rd 0 0x12 0) = true := by decide

/-- W1. -/
theorem test_8x8_wr :
    sendsOut #v[0x41, 0xFF, 1, 0, 0xFF, 0xFF, 0, 0, 0, 0, 0, 0, 0, 0, 0, 0] (.req8x8Wr 0xFF 0xFF 0xFF) = true := by decide

/-- W4. -/
theorem test_8x16_rd :
    sendsOut #v[0x42, 4, 0, 0, 0xFF, 0x45, 0x23, 0, 0, 0, 0, 0, 0, 0, 0, 0] (.req8x16Rd 4 0xFF 0x2345) = true := by decide

/-- The request of `VCTCXO_DAC_WRITE a=0x34 d=0x1234` (95 section 4). -/
theorem test_8x16_wr :
    sendsOut #v[0x42, 0, 1, 0, 0x34, 0x34, 0x12, 0, 0, 0, 0, 0, 0, 0, 0, 0] (.req8x16Wr 0 0x34 0x1234) = true := by decide

/-- The request of `FASTLOCK_READ a=0x05` (95 section 4). -/
theorem test_8x32_rd :
    sendsOut #v[0x43, 5, 0, 0, 5, 0, 0, 0, 0, 0, 0, 0, 0, 0, 0, 0] (.req8x32Rd 5 5 0) = true := by decide

/-- W5. -/
theorem test_8x32_wr :
    sendsOut #v[0x43, 5, 1, 0, 0x7F, 0xEF, 0xBE, 0xAD, 0xDE, 0, 0, 0, 0, 0, 0, 0] (.req8x32Wr 5 0x7F 0xDEADBEEF) = true := by
  decide

/-- W9. -/
theorem test_16x64_rd :
    sendsOut #v[0x45, 1, 0, 0, 0xDE, 0xBC, 1, 0, 0, 0, 0, 0, 0, 0, 0, 0] (.req16x64Rd 1 0xBCDE 1) = true := by decide

/-- W7. -/
theorem test_16x64_wr :
    sendsOut #v[0x45, 0, 1, 0, 0x34, 0x12, 0x88, 0x77, 0x66, 0x55, 0x44, 0x33, 0x22, 0x11, 0, 0]
      (.req16x64Wr 0 0x1234 0x1122334455667788) = true := by decide

/-- W11. -/
theorem test_32x32_rd :
    sendsOut #v[0x4B, 3, 0, 0, 0x78, 0x56, 0x34, 0x12, 0xF0, 0xDE, 0xBC, 0x9A, 0, 0, 0, 0]
      (.req32x32Rd 3 0x12345678 0x9ABCDEF0) = true := by decide

/-- W10. -/
theorem test_32x32_wr :
    sendsOut #v[0x4B, 0, 1, 0, 0xFF, 0xFF, 0xFF, 0xFF, 1, 0, 0, 0, 0, 0, 0, 0] (.req32x32Wr 0 0xFFFFFFFF 1) = true := by decide

/-- R-T1: the PLL word most significant byte first. -/
theorem test_retune_req :
    sendsOut #v[0x54, 0x08, 0x07, 0x06, 0x05, 0x04, 0x03, 0x02, 0x01, 0xD2, 0x92, 0x34, 0x56, 0x6C, 0x95, 0x03]
      (.reqRetune 0x0102030405060708 0x1A5 0x123456 0x6C 0x95 0x03) = true := by decide

/-- R-T9. -/
theorem test_retune2_req :
    sendsOut #v[0x55, 0xF0, 0xDE, 0xBC, 0x9A, 0x78, 0x56, 0x34, 0x12, 0xFF, 0xFF, 0xFF, 0x80, 0xFF, 0, 0]
      (.reqRetune2 0x123456789ABCDEF0 0xFFFF 0xFF 0x80 0xFF) = true := by decide

/-- T2: a transport error in the send step. -/
theorem test_send_error :
    (nextOf (step (sending ⟨0x20, {}⟩ (.width .c8x8) zeroPacket [.terr 5]))).map (fun t => (t.res.status, t.res.data, t.dLink)) =
      some (.transportError, 5, .unsync) := by decide

/-! ## Operation rows: decoding and the accept step (95 section 4) -/

theorem test_acc_8x8 : accepts 0x10 .acc8x8 { target := 7, write := true, addr := 0x12, data := 0xA5 }
    .send #v[0x41, 0x07, 0x01, 0, 0x12, 0xA5, 0, 0, 0, 0, 0, 0, 0, 0, 0, 0] = true := by decide

theorem test_acc_8x8_reads_with_data_zero : accepts 0x10 .acc8x8 { target := 7, addr := 0x12, data := 0xA5 }
    .send #v[0x41, 0x07, 0, 0, 0x12, 0, 0, 0, 0, 0, 0, 0, 0, 0, 0, 0] = true := by decide

theorem test_acc_8x16 : accepts 0x11 .acc8x16 { target := 7, write := true, addr := 0x34, data := 0x1234 }
    .send #v[0x42, 0x07, 0x01, 0, 0x34, 0x34, 0x12, 0, 0, 0, 0, 0, 0, 0, 0, 0] = true := by decide

theorem test_acc_8x32 : accepts 0x12 .acc8x32 { target := 7, write := true, addr := 0x05, data := 0xCAFEF00D }
    .send #v[0x43, 0x07, 0x01, 0, 0x05, 0x0D, 0xF0, 0xFE, 0xCA, 0, 0, 0, 0, 0, 0, 0] = true := by decide

theorem test_acc_16x64 : accepts 0x13 .acc16x64 { target := 7, write := true, addr := 0x123, data := 0x0102030405060708 }
    .send #v[0x45, 0x07, 0x01, 0, 0x23, 0x01, 0x08, 0x07, 0x06, 0x05, 0x04, 0x03, 0x02, 0x01, 0, 0] = true := by decide

theorem test_acc_32x32 : accepts 0x14 .acc32x32 { target := 7, write := true, addr := 0x80001000, data := 0x89ABCDEF }
    .send #v[0x4B, 0x07, 0x01, 0, 0, 0x10, 0, 0x80, 0xEF, 0xCD, 0xAB, 0x89, 0, 0, 0, 0] = true := by decide

theorem test_lms_read : accepts 0x20 .lmsRead { addr := 0x12 }
    .send #v[0x41, 0, 0, 0, 0x12, 0, 0, 0, 0, 0, 0, 0, 0, 0, 0, 0] = true := by decide

theorem test_lms_write : accepts 0x21 .lmsWrite { addr := 0x12, data := 0xA5 }
    .send #v[0x41, 0, 0x01, 0, 0x12, 0xA5, 0, 0, 0, 0, 0, 0, 0, 0, 0, 0] = true := by decide

theorem test_si5338_read : accepts 0x22 .si5338Read { addr := 0x12 }
    .send #v[0x41, 0x01, 0, 0, 0x12, 0, 0, 0, 0, 0, 0, 0, 0, 0, 0, 0] = true := by decide

theorem test_si5338_write : accepts 0x23 .si5338Write { addr := 0x12, data := 0xA5 }
    .send #v[0x41, 0x01, 0x01, 0, 0x12, 0xA5, 0, 0, 0, 0, 0, 0, 0, 0, 0, 0] = true := by decide

theorem test_tamer_get : accepts 0x24 .tamerGet {}
    .send #v[0x41, 0x02, 0, 0, 0, 0, 0, 0, 0, 0, 0, 0, 0, 0, 0, 0] = true := by decide

theorem test_tamer_set : accepts 0x25 .tamerSet { data := 1 }
    .send #v[0x41, 0x02, 0x01, 0, 0, 0x01, 0, 0, 0, 0, 0, 0, 0, 0, 0, 0] = true := by decide

theorem test_trig_read_rx : accepts 0x26 .trigReadRx {}
    .send #v[0x41, 0x04, 0, 0, 0, 0, 0, 0, 0, 0, 0, 0, 0, 0, 0, 0] = true := by decide

theorem test_trig_read_tx : accepts 0x26 .trigReadTx { chan := 1, sel := 2 }
    .send #v[0x41, 0x03, 0, 0, 0, 0, 0, 0, 0, 0, 0, 0, 0, 0, 0, 0] = true := by decide

theorem test_trig_write_rx : accepts 0x27 .trigWriteRx { sel := 1, data := 6 }
    .send #v[0x41, 0x04, 0x01, 0, 0, 0x06, 0, 0, 0, 0, 0, 0, 0, 0, 0, 0] = true := by decide

theorem test_trig_write_tx : accepts 0x27 .trigWriteTx { chan := 1, data := 6 }
    .send #v[0x41, 0x03, 0x01, 0, 0, 0x06, 0, 0, 0, 0, 0, 0, 0, 0, 0, 0] = true := by decide

theorem test_vctcxo_dac_read : accepts 0x30 .vctcxoDacRead { addr := 0x34 }
    .send #v[0x42, 0, 0, 0, 0x34, 0, 0, 0, 0, 0, 0, 0, 0, 0, 0, 0] = true := by decide

theorem test_vctcxo_dac_write : accepts 0x31 .vctcxoDacWrite { addr := 0x34, data := 0x1234 }
    .send #v[0x42, 0, 0x01, 0, 0x34, 0x34, 0x12, 0, 0, 0, 0, 0, 0, 0, 0, 0] = true := by decide

theorem test_iqcorr_read : accepts 0x32 .iqcorrRead { sel := 3 }
    .send #v[0x42, 0x01, 0, 0, 0x03, 0, 0, 0, 0, 0, 0, 0, 0, 0, 0, 0] = true := by decide

theorem test_iqcorr_write : accepts 0x33 .iqcorrWrite { sel := 2, data := 0xFFFF }
    .send #v[0x42, 0x01, 0x01, 0, 0x02, 0xFF, 0xFF, 0, 0, 0, 0, 0, 0, 0, 0, 0] = true := by decide

theorem test_agc_dc_write : accepts 0x34 .agcDcWrite { agc := #v[0x100, 0x200, 0x300, 0x400, 0x500, 0x600] }
    .send #v[0x42, 0x02, 0x01, 0, 0, 0, 0x01, 0, 0, 0, 0, 0, 0, 0, 0, 0] = true := by decide

theorem test_ad56x1_read : accepts 0x35 .ad56x1Read { addr := 0x34 }
    .send #v[0x42, 0x03, 0, 0, 0x34, 0, 0, 0, 0, 0, 0, 0, 0, 0, 0, 0] = true := by decide

theorem test_ad56x1_write : accepts 0x36 .ad56x1Write { addr := 0x34, data := 0x1234 }
    .send #v[0x42, 0x03, 0x01, 0, 0x34, 0x34, 0x12, 0, 0, 0, 0, 0, 0, 0, 0, 0] = true := by decide

theorem test_ina219_read : accepts 0x37 .ina219Read { addr := 0x34 }
    .send #v[0x42, 0x04, 0, 0, 0x34, 0, 0, 0, 0, 0, 0, 0, 0, 0, 0, 0] = true := by decide

theorem test_ina219_write : accepts 0x38 .ina219Write { addr := 0x34, data := 0x1234 }
    .send #v[0x42, 0x04, 0x01, 0, 0x34, 0x34, 0x12, 0, 0, 0, 0, 0, 0, 0, 0, 0] = true := by decide

theorem test_fpga_version_read : accepts 0x40 .fpgaVersionRead {}
    .send #v[0x43, 0, 0, 0, 0, 0, 0, 0, 0, 0, 0, 0, 0, 0, 0, 0] = true := by decide

theorem test_config_read : accepts 0x41 .configRead { addr := 0x05 }
    .send #v[0x43, 0x01, 0, 0, 0x05, 0, 0, 0, 0, 0, 0, 0, 0, 0, 0, 0] = true := by decide

theorem test_config_write : accepts 0x42 .configWrite { addr := 0x05, data := 0xCAFEF00D }
    .send #v[0x43, 0x01, 0x01, 0, 0x05, 0x0D, 0xF0, 0xFE, 0xCA, 0, 0, 0, 0, 0, 0, 0] = true := by decide

theorem test_xb200_read : accepts 0x43 .xb200Read { addr := 0x05 }
    .send #v[0x43, 0x02, 0, 0, 0x05, 0, 0, 0, 0, 0, 0, 0, 0, 0, 0, 0] = true := by decide

theorem test_xb200_write : accepts 0x44 .xb200Write { addr := 0x05, data := 0xCAFEF00D }
    .send #v[0x43, 0x02, 0x01, 0, 0x05, 0x0D, 0xF0, 0xFE, 0xCA, 0, 0, 0, 0, 0, 0, 0] = true := by decide

theorem test_rffe_read : accepts 0x45 .rffeRead { addr := 0x05 }
    .send #v[0x43, 0x03, 0, 0, 0x05, 0, 0, 0, 0, 0, 0, 0, 0, 0, 0, 0] = true := by decide

theorem test_rffe_write : accepts 0x46 .rffeWrite { addr := 0x05, data := 0xCAFEF00D }
    .send #v[0x43, 0x03, 0x01, 0, 0x05, 0x0D, 0xF0, 0xFE, 0xCA, 0, 0, 0, 0, 0, 0, 0] = true := by decide

theorem test_adf400x_read : accepts 0x47 .adf400xRead { addr := 0x05 }
    .send #v[0x43, 0x04, 0, 0, 0x05, 0, 0, 0, 0, 0, 0, 0, 0, 0, 0, 0] = true := by decide

theorem test_adf400x_write : accepts 0x48 .adf400xWrite { addr := 0x05, data := 0xCAFEF00D }
    .send #v[0x43, 0x04, 0x01, 0, 0x05, 0x0D, 0xF0, 0xFE, 0xCA, 0, 0, 0, 0, 0, 0, 0] = true := by decide

theorem test_fastlock_read : accepts 0x49 .fastlockRead { addr := 0x05 }
    .send #v[0x43, 0x05, 0, 0, 0x05, 0, 0, 0, 0, 0, 0, 0, 0, 0, 0, 0] = true := by decide

theorem test_fastlock_write : accepts 0x4A .fastlockWrite { addr := 0x05, data := 0xCAFEF00D }
    .send #v[0x43, 0x05, 0x01, 0, 0x05, 0x0D, 0xF0, 0xFE, 0xCA, 0, 0, 0, 0, 0, 0, 0] = true := by decide

theorem test_ad9361_read : accepts 0x50 .ad9361Read { addr := 0x123 }
    .send #v[0x45, 0, 0, 0, 0x23, 0x01, 0, 0, 0, 0, 0, 0, 0, 0, 0, 0] = true := by decide

theorem test_ad9361_write : accepts 0x51 .ad9361Write { addr := 0x123, data := 0x0102030405060708 }
    .send #v[0x45, 0, 0x01, 0, 0x23, 0x01, 0x08, 0x07, 0x06, 0x05, 0x04, 0x03, 0x02, 0x01, 0, 0] = true := by decide

theorem test_rfic_read : accepts 0x52 .rficRead { addr := 0x123 }
    .send #v[0x45, 0x01, 0, 0, 0x23, 0x01, 0, 0, 0, 0, 0, 0, 0, 0, 0, 0] = true := by decide

theorem test_rfic_write : accepts 0x53 .rficWrite { addr := 0x123, data := 0x0102030405060708 }
    .send #v[0x45, 0x01, 0x01, 0, 0x23, 0x01, 0x08, 0x07, 0x06, 0x05, 0x04, 0x03, 0x02, 0x01, 0, 0] = true := by decide

theorem test_expgpio_read : accepts 0x60 .expgpioRead { addr := 0xFFFFFFFF }
    .send #v[0x4B, 0, 0, 0, 0xFF, 0xFF, 0xFF, 0xFF, 0, 0, 0, 0, 0, 0, 0, 0] = true := by decide

theorem test_expgpio_write : accepts 0x61 .expgpioWrite { addr := 0xFFFFFFFF, data := 1 }
    .send #v[0x4B, 0, 0x01, 0, 0xFF, 0xFF, 0xFF, 0xFF, 0x01, 0, 0, 0, 0, 0, 0, 0] = true := by decide

theorem test_expgpio_dir_read : accepts 0x62 .expgpioDirRead { addr := 0xF0 }
    .send #v[0x4B, 0x01, 0, 0, 0xF0, 0, 0, 0, 0, 0, 0, 0, 0, 0, 0, 0] = true := by decide

theorem test_expgpio_dir_write : accepts 0x63 .expgpioDirWrite { addr := 0xF0, data := 0xA0 }
    .send #v[0x4B, 0x01, 0x01, 0, 0xF0, 0, 0, 0, 0xA0, 0, 0, 0, 0, 0, 0, 0] = true := by decide

theorem test_adi_axi_read : accepts 0x64 .adiAxiRead { addr := 0x80001000 }
    .send #v[0x4B, 0x02, 0, 0, 0, 0x10, 0, 0x80, 0, 0, 0, 0, 0, 0, 0, 0] = true := by decide

theorem test_adi_axi_write : accepts 0x65 .adiAxiWrite { addr := 0x80001000, data := 0x89ABCDEF }
    .send #v[0x4B, 0x02, 0x01, 0, 0, 0x10, 0, 0x80, 0xEF, 0xCD, 0xAB, 0x89, 0, 0, 0, 0] = true := by decide

theorem test_wishbone_read : accepts 0x66 .wishboneRead { addr := 0x80001000 }
    .send #v[0x4B, 0x03, 0, 0, 0, 0x10, 0, 0x80, 0, 0, 0, 0, 0, 0, 0, 0] = true := by decide

theorem test_wishbone_write : accepts 0x67 .wishboneWrite { addr := 0x80001000, data := 0x89ABCDEF }
    .send #v[0x4B, 0x03, 0x01, 0, 0, 0x10, 0, 0x80, 0xEF, 0xCD, 0xAB, 0x89, 0, 0, 0, 0] = true := by decide

theorem test_retune : accepts 0x70 .retune { ts := 5000, nint := 0x102, nfrac := 0xABCD, freqsel := 1, vcocap := 0x20, quickTune := true }
    .send #v[0x54, 0x88, 0x13, 0, 0, 0, 0, 0, 0, 0x81, 0, 0xAB, 0xCD, 0x41, 0x60, 0] = true := by decide

theorem test_retune2 : accepts 0x71 .retune2 { niosProfile := 3, rffeProfile := 2, port := 7, spdt := 0x11 }
    .send #v[0x55, 0, 0, 0, 0, 0, 0, 0, 0, 0x03, 0, 0x02, 0x87, 0x11, 0, 0] = true := by decide

theorem test_drain : accepts 0x7F .drain {}
    .recv zeroPacket = true := by decide

/-! ## Argument checks (95 section 7.1, E1, E2, T11) -/

/-- M4, and that the check reads the whole operand. -/
theorem test_tamer_set_rejects : rejects (.tamerSet { data := 3 }) .idle && rejects (.tamerSet { data := 0x101 }) .idle = true := by
  decide

/-- T12. -/
theorem test_trig_rejects_signal_3 :
    rejects (.trigReadRx { sel := 3 }) .idle && rejects (.trigWriteTx { chan := 1, sel := 5 }) .idle = true := by decide

/-- M9. -/
theorem test_iqcorr_rejects_field_4 :
    rejects (.iqcorrRead { sel := 4 }) .idle && rejects (.iqcorrWrite { sel := 0xFF }) .idle = true := by decide

/-- E2, M5, Q7. -/
theorem test_retunes_reject_channel_2 :
    rejects (.retune { chan := 2 }) .err && rejects (.retune2 { chan := 0xFF }) .err = true := by decide

/-- T11. -/
theorem test_unknown_codes_are_no_instruction :
    [0x00, 0x15, 0x28, 0x39, 0x4B, 0x54, 0x68, 0x72, 0xFF].all
      (fun c => decide (decode (.op ⟨c, {}⟩) = .error (.unknownOpcode c))) = true := by decide

/-- T11 in one step. -/
theorem test_unknown_code_ends_in_one_step :
    (nextOf (step { idle0 with env := { offers := [⟨0x15, {}⟩] } })).map (fun t => (t.dState, t.res.status, t.env.trace)) =
      some (.idle, .invalidArgument, []) := by decide

/-- R-T2, R-T8: the unmasked bits of R366. -/
theorem test_retune_merges_the_callers_bits :
    accepts 0x70 .retune
      { chan := 1, nint := 0x1FF, nfrac := 0x7FFFFF, freqsel := 0x3F, vcocap := 0x3F, lowBand := true, quickTune := true,
        xbGpio := 0xFF }
      .send #v[0x54, 0, 0, 0, 0, 0, 0, 0, 0, 0xFF, 0xFF, 0xFF, 0xFF, 0xBF, 0xFF, 0xFF] &&
    accepts 0x70 .retune { nint := 0x80, nfrac := 0x800000, freqsel := 0x80, vcocap := 0x80, lowBand := true, quickTune := true }
      .send #v[0x54, 0, 0, 0, 0, 0, 0, 0, 0, 0x40, 0, 0, 0, 0xC0, 0xC0, 0] = true := by decide

/-- The port table of 95 section 3.1. -/
theorem test_port_byte :
    [0x00, 0x05, 0x7F, 0x85, 0xFF].map (fun p => portByte p chanRx) = [0x80, 0x85, 0xFF, 0x05, 0x7F] ∧
      [0x00, 0x05, 0x7F, 0x85, 0xFF].map (fun p => portByte p chanTx) = [0x00, 0x05, 0x7F, 0x05, 0x7F] := by decide

/-! ## Response rows and their handlers (95 sections 2.2, 2.3, 5, 6 and 7.2) -/

/-- T1, T10: an 8x8 response needs no success bit. -/
theorem test_8x8_rsp :
    verdictOf ⟨0x20, {}⟩ (.width .c8x8) #v[0x41, 0, 0, 0, 0x10, 0x5A, 0, 0, 0, 0, 0, 0, 0, 0, 0, 0] =
      some (.ok, 0x5A, false, false) ∧
    verdictOf ⟨0x21, {}⟩ (.width .c8x8) #v[0x41, 0, 1, 0, 0x10, 0x3F, 0, 0, 0, 0, 0, 0, 0, 0, 0, 0] =
      some (.ok, 0x3F, true, false) := by decide

/-- M20: not sign-extended. -/
theorem test_8x16_rsp :
    verdictOf ⟨0x32, {}⟩ (.width .c8x16) #v[0x42, 1, 2, 0, 2, 0xFF, 0xFF, 0, 0, 0, 0, 0, 0, 0, 0, 0] =
      some (.ok, 0xFFFF, false, true) := by decide

/-- T8, T9. -/
theorem test_8x32_rsp_without_success :
    verdictOf ⟨0x45, {}⟩ (.width .c8x32) #v[0x43, 3, 0, 0, 0, 0x11, 0x22, 0x33, 0x44, 0, 0, 0, 0, 0, 0, 0] =
      some (.operationFailed, 0, false, false) ∧
    verdictOf ⟨0x46, {}⟩ (.width .c8x32) #v[0x43, 3, 1, 0, 0, 1, 0, 0, 0, 0, 0, 0, 0, 0, 0, 0] =
      some (.operationFailed, 1, true, false) := by decide

/-- T13's second half: another target's response is not told apart. -/
theorem test_8x32_rsp :
    verdictOf ⟨0x43, {}⟩ (.width .c8x32) #v[0x43, 5, 3, 0, 0x7F, 0xEF, 0xBE, 0xAD, 0xDE, 0, 0, 0, 0, 0, 0, 0] =
      some (.ok, 0xDEADBEEF, true, true) := by decide

/-- W14, W26. -/
theorem test_16x64_rsp :
    verdictOf ⟨0x52, {}⟩ (.width .c16x64) #v[0x45, 1, 2, 0, 0x34, 0x12, 0x88, 0x77, 0x66, 0x55, 0x44, 0x33, 0x22, 0x11, 0, 0] =
      some (.ok, 0x1122334455667788, false, true) ∧
    verdictOf ⟨0x51, {}⟩ (.width .c16x64) #v[0x45, 0, 1, 0, 0, 0, 0, 0, 0, 0, 0, 0, 0, 0, 0, 0] =
      some (.operationFailed, 1, true, false) := by decide

/-- W14a; M17. -/
theorem test_32x32_rsp :
    verdictOf ⟨0x67, {}⟩ (.width .c32x32) #v[0x4B, 3, 3, 0, 0x78, 0x56, 0x34, 0x12, 0xF0, 0xDE, 0xBC, 0x9A, 0, 0, 0, 0] =
      some (.ok, 0x9ABCDEF0, true, true) ∧
    verdictOf ⟨0x60, { addr := 0xFF }⟩ (.width .c32x32) #v[0x4B, 0, 2, 0, 0, 0, 0, 0, 0x78, 0x56, 0x34, 0x12, 0, 0, 0, 0] =
      some (.ok, 0x78, false, true) := by decide

/-- M19; and R328: the flags byte is the info, outside the mask too. -/
theorem test_expgpio_dir_read_masks :
    verdictOf ⟨0x62, { addr := 0xF0F0F0F0 }⟩ (.width .c32x32) #v[0x4B, 1, 2, 0, 0, 0, 0, 0, 0xFF, 0xFF, 0xFF, 0xFF, 0, 0, 0, 0] =
      some (.ok, 0xF0F0F0F0, false, true) ∧
    verdictOf ⟨0x62, { addr := 0xF0 }⟩ (.width .c32x32) #v[0x4B, 1, 5, 0, 0, 0, 0, 0, 0xFF, 0xFF, 0xFF, 0xFF, 0, 0, 0, 0] =
      some (.operationFailed, 5, true, false) := by decide

/-- M12, M13, E7. -/
theorem test_tamer_get_checks_the_mode :
    verdictOf ⟨0x24, {}⟩ (.width .c8x8) #v[0x41, 2, 2, 0, 0, 2, 0, 0, 0, 0, 0, 0, 0, 0, 0, 0] = some (.ok, 2, false, true) ∧
    verdictOf ⟨0x24, {}⟩ (.width .c8x8) #v[0x41, 2, 0, 0, 0, 3, 0, 0, 0, 0, 0, 0, 0, 0, 0, 0] =
      some (.unexpectedValue, 3, false, false) := by decide

/-- M16: bits 31:24 are in no field. -/
theorem test_fpga_version_read_splits :
    (resultOf ⟨0x40, {}⟩ (.width .c8x32) #v[0x43, 0, 2, 0, 0, 3, 2, 1, 0xFF, 0, 0, 0, 0, 0, 0, 0]).map
      (fun r => (r.status, r.data, r.major, r.minor, r.patch)) = some (.ok, 0xFF010203, 1, 2, 3) := by decide

/-- T7: another family's magic, and the link stays. -/
theorem test_foreign_magic :
    (resultOf ⟨0x20, {}⟩ (.width .c8x8) #v[0x43, 0, 2, 0, 0, 4, 0, 2, 0, 0, 0, 0, 0, 0, 0, 0]).map
      (fun r => (r.status, r.data, r.link)) = some (.framingError, 0x43, .sync) := by decide

/-- P3, step 7: the response of index 2 starts the write of index 3. -/
theorem test_agc_goes_on :
    (nextOf (exec (.rsp8x16 #v[2, 3, 0, 2, 0, 3, 0, 0, 0, 0, 0, 0, 0, 0, 0])
      { receiving ⟨0x34, { agc := #v[0x100, 0x200, 0x300, 0x400, 0x500, 0x600] }⟩ (.width .c8x16) [] with sIdx := 2 })).map
        (fun t => (t.dState, t.sIdx, t.dReq, t.res.valid)) =
      some (.send, 3, #v[0x42, 2, 1, 0, 3, 0, 4, 0, 0, 0, 0, 0, 0, 0, 0, 0], false) := by decide

/-- P3, operation 3: the response of index 5 ends the operation. -/
theorem test_agc_ends :
    (nextOf (exec (.rsp8x16 #v[2, 3, 0, 5, 0, 6, 0, 0, 0, 0, 0, 0, 0, 0, 0])
      { receiving ⟨0x34, {}⟩ (.width .c8x16) [] with sIdx := 5 })).map
        (fun t => (t.dState, t.res.status, t.res.idx, t.res.data, t.res.flag1)) =
      some (.idle, .ok, 6, 0, true) := by decide

/-- P4, steps 2 and 1. -/
theorem test_retune_rsp :
    (nextOf (exec (.rspRetune #v[0x78, 0, 0, 0, 0, 0, 0, 0, 0x15, 2, 0, 0, 0, 0, 0]) (retuning 0x70 .retune .retune 5000 []))).map
      (fun t => (t.rState, t.res.status, t.res.duration, t.res.vcocap, t.res.data)) = some (.done, .ok, 0x78, 0x15, 0) ∧
    (nextOf (exec (.rspRetune #v[0, 0, 0, 0, 0, 0, 0, 0, 0x15, 0, 0, 0, 0, 0, 0]) (retuning 0x70 .retune .retune 5000 []))).map
      (fun t => (t.rState, t.res.status, t.res.duration, t.res.vcocap, t.res.data)) = some (.qfull, .queueFull, 0, 0x15, 0x1388) := by
  decide

/-- P4, step 3. -/
theorem test_retune_rsp_tune_failure :
    (nextOf (exec (.rspRetune #v[0, 0, 0, 0, 0, 0, 0, 0, 0x15, 0, 0, 0, 0, 0, 0]) (retuning 0x70 .retune .retune 0 []))).map
      (fun t => (t.rState, t.res.status, t.res.vcocap, t.res.data)) = some (.fail, .tuneFailure, 0x15, 0) := by decide

/-- R-U5, R-U6: bit 1 of byte 9. -/
theorem test_retune2_rsp :
    (nextOf (exec (.rspRetune2 #v[0, 1, 0, 0, 0, 0, 0, 0, 2, 0, 0, 0, 0, 0, 0]) (retuning 0x71 .retune2 .retune2 7 []))).map
      (fun t => (t.rState, t.res.status, t.res.duration)) = some (.done, .ok, 256) ∧
    (nextOf (exec (.rspRetune2 #v[0, 0, 0, 0, 0, 0, 0, 0, 0, 2, 0, 0, 0, 0, 0]) (retuning 0x71 .retune2 .retune2 7 []))).map
      (fun t => (t.rState, t.res.status, t.res.duration)) = some (.qfull, .queueFull, 0) := by decide

/-- I7: the sentinel is a parameter. -/
theorem test_sentinel_is_a_parameter :
    interpretRetune false 0xFFFFFFFFFFFFFFFF 0xFFFFFFFFFFFFFFFF = .tuneFailure ∧
      interpretRetune false 0 0xFFFFFFFFFFFFFFFF = .queueFull := by decide

/-- T6, T4: a short response and a transport error in the receive step. -/
theorem test_receive_errors :
    (nextOf (step (receiving ⟨0x41, {}⟩ (.width .c8x32) [.ok 12 zeroPacket]))).map (fun t => (t.res.status, t.res.data, t.dLink)) =
      some (.framingError, 0x10C, .unsync) ∧
    (nextOf (step (receiving ⟨0x21, {}⟩ (.width .c8x8) [.terr 7]))).map (fun t => (t.res.status, t.res.data, t.dLink)) =
      some (.transportError, 7, .unsync) := by decide

/-- T5: the drained bytes are discarded. -/
theorem test_drain_receives :
    (nextOf (step { receiving ⟨0x7F, {}⟩ (.width .c8x8) [.ok 16 #v[0x41, 0, 1, 0, 0x10, 0x3F, 0, 0, 0, 0, 0, 0, 0, 0, 0, 0]] with
      dLink := .unsync })).map (fun t => (t.res.status, t.res.data, t.dLink, t.dResp)) = some (.ok, 0, .sync, zeroPacket) := by
  decide

/-- Q10: reset in the middle of an exchange. -/
theorem test_reset_goes_first :
    (nextOf (step { retuning 0x70 .retune .retune 7 [] with env := { resetIn := [true], recvs := [.terr 1] } })).map
      (fun t => (t.dState, t.rState, t.rTs, t.env.recvs)) = some (.idle, .idle, 0, [.terr 1]) := by decide

/-- R26: another response length is refused. -/
theorem test_other_response_length_is_refused : nextOf (step { idle0 with cfg := { cfg0 with respLen := 15 } }) = none := by
  decide

/-- opcode_table.json's numbering: byte 0 is bits 7 to 0. The packet of `LMS_WRITE a=0x12 d=0xA5`. -/
theorem test_table_word :
    decodeTableWord 128 0xA51200010041 = some (.lmsWrite { addr := 0x12, data := 0xA5, sel := 0x12, agc := #v[0xA5, 0, 0, 0, 0, 0] }) ∧
      (nextOf (step (idle0.withFetchWord 128 0xA51200010041))).map State.dReq =
        some #v[0x41, 0, 1, 0, 0x12, 0xA5, 0, 0, 0, 0, 0, 0, 0, 0, 0, 0] := by decide

/-! ## Witnesses: states and operands that meet the hypotheses of the statements, one theorem for each statement that has
hypotheses, with boundary values for its clauses -/

/-- The request of `LMS_READ a=0x12`. -/
def lmsPacket : Packet := #v[0x41, 0, 0, 0, 0x12, 0, 0, 0, 0, 0, 0, 0, 0, 0, 0, 0]

/-- `D_SEND` with `LMS_READ a=0x12` in flight. -/
def lmsSending (outs : List SendOutcome) : State := sending ⟨0x20, { addr := 0x12 }⟩ (.width .c8x8) lmsPacket outs

/-- `D_RECV` with `LMS_READ a=0x12` in flight. -/
def lmsReceiving (outs : List RecvOutcome) : State := receiving ⟨0x20, { addr := 0x12 }⟩ (.width .c8x8) outs

/-- `D_IDLE` with operations on the port and the transport's outcomes to come. -/
def offering (ds : List OpDesc) (ss : List SendOutcome) (rs : List RecvOutcome) : State :=
  { idle0 with env := { offers := ds, sends := ss, recvs := rs } }

/-- A body whose third byte, the width-class flags byte, is `f`. -/
def bodyWithFlags (f : Byte) : Body := #v[0, f, 0, 0, 3, 0, 0, 0, 0, 0, 0, 0, 0, 0, 0]

theorem lms_receiving_coherent (outs : List RecvOutcome) : Coherent (lmsReceiving outs) where
  busy_no_result := fun _ => rfl
  scheduled_iff := ⟨nofun, fun h => nomatch h.2⟩
  retune_in_flight := fun h => by cases h
  family_of_op := fun _ _ => by simp [lmsReceiving, receiving]
  idle_copies := fun h => by cases h
  idx_zero := fun _ => rfl
  agc_in_flight := fun _ h => by cases h
  request_canonical := fun h => by cases h

theorem lms_sending_coherent (outs : List SendOutcome) : Coherent (lmsSending outs) where
  busy_no_result := fun _ => rfl
  scheduled_iff := ⟨nofun, fun h => nomatch h.2⟩
  retune_in_flight := fun h => by cases h
  family_of_op := fun _ _ => by simp [lmsSending, sending]
  idle_copies := fun h => by cases h
  idx_zero := fun _ => rfl
  agc_in_flight := fun _ h => by cases h
  request_canonical := fun _ => ⟨by simp [lmsSending, sending], rfl, .req8x8Rd 0 0x12 0, rfl⟩

theorem retuning_coherent (outs : List RecvOutcome) : Coherent (retuning 0x70 .retune .retune 7 outs) where
  busy_no_result := fun _ => rfl
  scheduled_iff := ⟨fun _ => ⟨nofun, rfl⟩, fun _ => rfl⟩
  retune_in_flight := fun _ => ⟨rfl, .inl ⟨rfl, rfl, rfl⟩⟩
  family_of_op := fun _ _ => by simp [retuning, receiving]
  idle_copies := fun h => by cases h
  idx_zero := fun _ => rfl
  agc_in_flight := fun _ h => by cases h
  request_canonical := fun h => by cases h

theorem witness_UnpackReadsEveryClass :
    byteAt zeroPacket 0 ≠ widthMagic .c8x8 ∧ byteAt (pack .c8x8 0 false 0 0) 0 = 0x41 ∧
      byteAt (pack .c8x16 0 false 0 0) 0 = 0x42 ∧ byteAt (pack .c8x32 0 false 0 0) 0 = 0x43 ∧
      byteAt (pack .c16x64 0 false 0 0) 0 = 0x45 ∧ byteAt (pack .c32x32 0 false 0 0) 0 = 0x4B := by decide

theorem witness_UnpackOfPackGivesTheTuple :
    0xFF < 2 ^ 8 ∧ 0xFFFFFFFF < 2 ^ (8 * addrWidth .c32x32) ∧ 0xFFFFFFFF < 2 ^ (8 * dataWidth .c32x32) ∧
      0xFF < 2 ^ (8 * addrWidth .c8x8) ∧ 0xFFFFFFFFFFFFFFFF < 2 ^ (8 * dataWidth .c16x64) := by decide

theorem witness_CorruptedMagicIsRejected :
    byteAt (pack .c16x64 0 false 0 0) 0 = widthMagic .c16x64 ∧ (0x44 : Byte) ≠ widthMagic .c16x64 := by decide

theorem witness_VerdictDecidesWidthOperations :
    (lmsReceiving []).dState = .recv ∧ (lmsReceiving []).sFam = .width .c8x8 ∧ (lmsReceiving []).sOp.opc ≠ 0x34 ∧
      (lmsReceiving []).sOp.opc ≠ 0x7F := by decide

theorem witness_FieldReadsBackWhatWasWritten : 6 + 8 ≤ 16 ∧ (5 < 6 ∨ 6 + 8 ≤ 5) ∧ (14 < 6 ∨ 6 + 8 ≤ 14) := by decide

theorem witness_PllWordIsPackedMostSignificantFirst :
    (0xFFFF : BitVec 16) &&& 0x1FF = 0x1FF &&& 0x1FF ∧ (0xFFFFFFFF : BitVec 32) &&& 0x7FFFFF = 0x7FFFFF &&& 0x7FFFFF := by
  decide

theorem witness_FreqselAndBandselAreOredUnmasked :
    (0x80 : Byte).getLsbD 7 = true ∧ (0x40 : Byte).getLsbD 6 = true := by decide

theorem witness_PortByteFollowsItsTruthTable :
    (0x7F : Byte).getLsbD 7 = false ∧ (0x80 : Byte).getLsbD 7 = true ∧ ((0 : Byte) = 0 ∨ (0 : Byte) = 1) ∧
      ((1 : Byte) = 0 ∨ (1 : Byte) = 1) := by decide

theorem witness_RetuneRequestsAreLaidOut :
    (({} : OpFields).chan = 0 ∨ ({} : OpFields).chan = 1) ∧
      (({ chan := 1 } : OpFields).chan = 0 ∨ ({ chan := 1 } : OpFields).chan = 1) := by decide

theorem witness_RetuneVerdictsInterpretTheSuccessBit : (1 : BitVec 64) ≠ 0 := by decide

theorem witness_DecodeOfEncodeIsTheInstruction :
    (Instr.trigReadTx { chan := 1 }).wellFormed = true ∧ (Instr.reqRetune 0 0x1FF 0x7FFFFF 0 0 0).wellFormed = true := by decide

theorem witness_DecodedImagesEncodeBack :
    decode (.response (frame 0x41 (bodyWithFlags 0xFF))) = .ok (.rsp8x8 (bodyWithFlags 0xFF)) ∧
      decode (.op ⟨0x27, { chan := 0, sel := 2 }⟩) = .ok (.trigWriteRx { chan := 0, sel := 2 }) := by decide

/-- A packet of each magic and one of no family; and a request with its reserved bytes and flags bits set, read as W14b of
95_test_vectors.md reads its fields. -/
theorem witness_RequestsDecodeToTheirFields :
    ([0x41, 0x42, 0x43, 0x45, 0x4B, 0x54, 0x55] : List Byte).all (fun m => byteAt (frame m (bodyWithFlags 0xFF)) 0 == m) = true ∧
      byteAt (frame 0x44 (bodyWithFlags 0)) 0 ∉ ([0x41, 0x42, 0x43, 0x45, 0x4B, 0x54, 0x55] : List Byte) ∧
      decode (.request #v[0x41, 7, 0xFE, 0x55, 0x20, 0xAA, 0x99, 0x99, 0x99, 0x99, 0x99, 0x99, 0x99, 0x99, 0x99, 0x99]) =
        .ok (.req8x8Rd 7 0x20 0xAA) := by decide

theorem witness_PacketsFitTheirTableRow :
    encode (.rsp8x8 (bodyWithFlags 1)) = .response (frame 0x41 (bodyWithFlags 1)) ∧
      encode (.req8x8Rd 0 0x12 0) = .request lmsPacket ∧ isOperation (.lmsRead { addr := 0x12 }) = true ∧
      (Instr.lmsRead { addr := 0x12 }).wellFormed = true ∧ idle0.dState = .idle ∧
      (nextOf (exec (.lmsRead { addr := 0x12 }) idle0)).map State.dState = some .send := by decide

/-- Also of `LmsAndSi5338AreAccepted`, `DacAndMonitorAreAccepted`, `AgcIsAcceptedAtIndexZero`, `EightByThirtyTwoAreAccepted`,
`SixteenBySixtyFourAreAccepted`, `ThirtyTwoByThirtyTwoAreAccepted` and `DrainIsAcceptedWithoutARequest`: their one hypothesis. -/
theorem witness_GenericAccessesAreAccepted : idle0.dState = .idle := by decide

theorem witness_TamerOperationsAreAcceptedOrRejected :
    idle0.dState = .idle ∧ ({ data := 2 } : OpFields).data = 2 ∧ ({ data := 3 } : OpFields).data ∉ ([0, 1, 2] : List (BitVec 64)) := by
  decide

theorem witness_TriggerOperationsAreAcceptedOrRejected :
    idle0.dState = .idle ∧ ({ chan := 1, sel := 2 } : OpFields).sel = BitVec.ofNat 8 (2 : Fin 3).val ∧
      ({ chan := 1, sel := 2 } : OpFields).chan = 1 ∧ ({ sel := 0 } : OpFields).sel = BitVec.ofNat 8 (0 : Fin 3).val ∧
      ({ sel := 0 } : OpFields).chan = 0 ∧ 3 ≤ ({ sel := 3 } : OpFields).sel.toNat := by decide

theorem witness_IqCorrectionIsAcceptedOrRejected :
    idle0.dState = .idle ∧ ({ sel := 3 } : OpFields).sel.toNat ≤ 3 ∧ 4 ≤ ({ sel := 4 } : OpFields).sel.toNat := by decide

theorem witness_RetunesAreScheduledOrRejected :
    idle0.dState = .idle ∧ (({ chan := 1 } : OpFields).chan = 0 ∨ ({ chan := 1 } : OpFields).chan = 1) ∧
      ({ chan := 2 } : OpFields).chan ≠ 0 ∧ ({ chan := 2 } : OpFields).chan ≠ 1 := by decide

/-- One offer that `DECODE` takes and one that it rejects. -/
theorem witness_AcceptStepFollowsDecode :
    running (offering [⟨0x20, {}⟩] [] []) ∧ (offering [⟨0x20, {}⟩] [] []).dState = .idle ∧ (⟨0x20, {}⟩ : OpDesc).opc ≠ 0x7F ∧
      (decodeSpec cfg0 ⟨0x20, {}⟩).isSome = true ∧ running (offering [⟨0x15, {}⟩] [] []) ∧
      (decodeSpec cfg0 ⟨0x15, {}⟩).isNone = true := ⟨⟨rfl, rfl⟩, rfl, by decide, by decide, ⟨rfl, rfl⟩, by decide⟩

theorem witness_BusyBlockAcceptsNothing :
    isOperation (.lmsRead {}) = true ∧ running (lmsSending [.ok]) ∧ (lmsSending [.ok]).dState ≠ .idle ∧
      ∃ t, step (lmsSending [.ok]) = .next t := ⟨by decide, ⟨rfl, rfl⟩, by decide, _, rfl⟩

/-- The three waits of its last clause. -/
theorem witness_BusyBlockAcceptsNothing_waits :
    (running idle0 ∧ idle0.dState = .idle ∧ idle0.env.offers = []) ∧
    (running (lmsSending []) ∧ (lmsSending []).dState = .send ∧ (lmsSending []).env.sends = []) ∧
    (running (lmsReceiving []) ∧ (lmsReceiving []).dState = .recv ∧ (lmsReceiving []).env.recvs = []) :=
  ⟨⟨⟨rfl, rfl⟩, rfl, rfl⟩, ⟨⟨rfl, rfl⟩, rfl, rfl⟩, ⟨rfl, rfl⟩, rfl, rfl⟩

theorem witness_PseudoOperationsMatchTheirExpansion :
    idle0.cfg.respLen = 16 ∧ idle0.dState = .idle ∧ (⟨0x20, .c8x8, 0, false⟩ : MapRow) ∈ targetMap ∧
      (0x20 : BitVec 8) ∉ ([0x60, 0x61, 0x62, 0x63] : List (BitVec 8)) := by decide

/-- The three places an instruction is taken from. -/
theorem witness_StepRunsTheDecodedInstruction :
    (running (offering [⟨0x20, {}⟩] [] []) ∧ (offering [⟨0x20, {}⟩] [] []).dState = .idle ∧
      decode (.op ⟨0x20, {}⟩) = .ok (.lmsRead {})) ∧
    (running (lmsSending []) ∧ (lmsSending []).dState = .send ∧ encode (.req8x8Rd 0 0x12 0) = .request (lmsSending []).dReq ∧
      decode (.request (lmsSending []).dReq) = .ok (.req8x8Rd 0 0x12 0)) ∧
    (running (lmsReceiving [.ok 16 lmsPacket]) ∧ (lmsReceiving [.ok 16 lmsPacket]).dState = .recv ∧
      (lmsReceiving [.ok 16 lmsPacket]).sOp.opc ≠ 0x7F ∧
      decode (.response lmsPacket) = .ok (.rsp8x8 (bodyOf lmsPacket))) :=
  ⟨⟨⟨rfl, rfl⟩, by decide⟩, ⟨⟨rfl, rfl⟩, by decide⟩, ⟨rfl, rfl⟩, by decide⟩

theorem witness_SendStepHandsOverTheRequest :
    (∀ l, running (lmsSending l) ∧ (lmsSending l).dState = .send) ∧ (lmsSending [.ok]).env.sends = .ok :: [] ∧
      (lmsSending [.terr 0xFF]).env.sends = .terr 0xFF :: [] := ⟨fun _ => ⟨⟨rfl, rfl⟩, rfl⟩, rfl, rfl⟩

theorem witness_ReceiveStepEndsOnTransportAndLengthErrors :
    (∀ l, running (lmsReceiving l) ∧ (lmsReceiving l).dState = .recv) ∧
      (lmsReceiving [.terr 0]).env.recvs = .terr 0 :: [] ∧
      (lmsReceiving [.ok 17 zeroPacket]).env.recvs = .ok 17 zeroPacket :: [] ∧ (lmsReceiving []).sOp.opc ≠ 0x7F ∧
      (17 : BitVec 8) ≠ 16 := ⟨fun _ => ⟨⟨rfl, rfl⟩, rfl⟩, rfl, rfl, by decide, by decide⟩

theorem witness_ForeignMagicIsAFramingError :
    running (lmsReceiving [.ok 16 zeroPacket]) ∧ Coherent (lmsReceiving [.ok 16 zeroPacket]) ∧
      (lmsReceiving [.ok 16 zeroPacket]).dState = .recv ∧ (lmsReceiving [.ok 16 zeroPacket]).sOp.opc ≠ 0x7F ∧
      byteAt zeroPacket 0 ≠ familyMagic (lmsReceiving [.ok 16 zeroPacket]).sFam :=
  ⟨⟨rfl, rfl⟩, lms_receiving_coherent _, rfl, by decide, by decide⟩

theorem witness_DrainReceivesOneResponse :
    (∀ rs, running (offering [⟨0x7F, {}⟩] [] rs) ∧ (offering [⟨0x7F, {}⟩] [] rs).dState = .idle) ∧
      (offering [⟨0x7F, {}⟩] [] []).env.recvs = [] ∧
      (offering [⟨0x7F, {}⟩] [] [.ok 3 zeroPacket]).env.recvs = .ok 3 zeroPacket :: [] ∧
      (offering [⟨0x7F, {}⟩] [] [.terr 1]).env.recvs = .terr 1 :: [] := ⟨fun _ => ⟨⟨rfl, rfl⟩, rfl⟩, rfl, rfl, rfl⟩

theorem witness_ResetStepClearsTheBlock :
    ({ lmsReceiving [] with env := { resetIn := [true] } } : State).cfg.respLen = 16 ∧
      ({ lmsReceiving [] with env := { resetIn := [true] } } : State).env.resetIn = true :: [] := by decide

/-- Also of `RetuneRequestsAreSent`. -/
theorem witness_WidthRequestsAreSent : (lmsSending [.ok]).dState = .send ∧ (lmsSending [.ok]).env.sends = .ok :: [] := by decide

theorem witness_PacketsOutsideTheirStepChangeNothing :
    encode (.req8x8Rd 0 0x12 0) = .request lmsPacket ∧ (lmsReceiving []).dState ≠ .send ∧
      encode (.rsp8x8 (bodyOf lmsPacket)) = .response lmsPacket ∧ idle0.dState ≠ .recv := by decide

theorem witness_NarrowResponsesEndOk :
    (lmsReceiving []).dState = .recv ∧ plainOpc (lmsReceiving []).sOp.opc = true ∧ (lmsReceiving []).sFam = .width .c8x8 ∧
      plainOpc 0x30 = true ∧ (receiving ⟨0x30, {}⟩ (.width .c8x16) []).sFam = .width .c8x16 := by decide

theorem witness_WideResponsesNeedTheSuccessBit :
    ([(.c8x32, 0x41), (.c16x64, 0x50), (.c32x32, 0x64)] : List (WidthClass × BitVec 8)).all (fun p =>
      (receiving ⟨p.2, {}⟩ (.width p.1) []).dState == .recv && plainOpc (receiving ⟨p.2, {}⟩ (.width p.1) []).sOp.opc &&
        (receiving ⟨p.2, {}⟩ (.width p.1) []).sFam == .width p.1) = true := by decide

theorem witness_TamerModeIsChecked :
    (receiving ⟨0x24, {}⟩ (.width .c8x8) []).dState = .recv ∧ (receiving ⟨0x24, {}⟩ (.width .c8x8) []).sFam = .width .c8x8 ∧
      (receiving ⟨0x24, {}⟩ (.width .c8x8) []).sOp.opc = 0x24 := by decide

theorem witness_FpgaVersionIsSplit :
    (receiving ⟨0x40, {}⟩ (.width .c8x32) []).dState = .recv ∧ (receiving ⟨0x40, {}⟩ (.width .c8x32) []).sFam = .width .c8x32 ∧
      (receiving ⟨0x40, {}⟩ (.width .c8x32) []).sOp.opc = 0x40 := by decide

theorem witness_MaskedReadsReportOnlyMaskedBits :
    (receiving ⟨0x62, { addr := 0xF0 }⟩ (.width .c32x32) []).dState = .recv ∧
      (receiving ⟨0x62, { addr := 0xF0 }⟩ (.width .c32x32) []).sFam = .width .c32x32 ∧
      (receiving ⟨0x62, { addr := 0xF0 }⟩ (.width .c32x32) []).sOp.opc = 0x62 ∧
      bit1 (byteAt (frame 0x4B (bodyWithFlags 2)) 2) = true ∧ bit1 (byteAt (frame 0x4B (bodyWithFlags 0xFD)) 2) = false := by decide

/-- The first index, the last but one, the last, and a foreign magic. -/
theorem witness_AgcSequencerAdvancesInOrder :
    (receiving ⟨0x34, {}⟩ (.width .c8x16) []).dState = .recv ∧ (receiving ⟨0x34, {}⟩ (.width .c8x16) []).sOp.opc = 0x34 ∧
      (1 : Fin 6).val = (receiving ⟨0x34, {}⟩ (.width .c8x16) []).sIdx.val + 1 ∧
      (5 : Fin 6).val = ({ receiving ⟨0x34, {}⟩ (.width .c8x16) [] with sIdx := 4 } : State).sIdx.val + 1 ∧
      ({ receiving ⟨0x34, {}⟩ (.width .c8x16) [] with sIdx := 5 } : State).sIdx.val = 5 ∧
      encode (.rsp8x8 (bodyOf lmsPacket)) = .response lmsPacket ∧ byteAt lmsPacket 0 ≠ 0x42 := by decide

/-- Both kinds; with the sentinel as the timestamp and without; and a foreign magic for each. -/
theorem witness_RetuneResponsesSettleTheRetune :
    (retuning 0x70 .retune .retune 0 []).dState = .recv ∧ (retuning 0x70 .retune .retune 0 []).sFam = .retune ∧
      (retuning 0x70 .retune .retune 0 []).sOp.opc = 0x70 ∧
      (retuning 0x70 .retune .retune 0 []).rTs = (retuning 0x70 .retune .retune 0 []).cfg.retuneNow ∧
      (retuning 0x71 .retune2 .retune2 1 []).dState = .recv ∧ (retuning 0x71 .retune2 .retune2 1 []).sFam = .retune2 ∧
      (retuning 0x71 .retune2 .retune2 1 []).sOp.opc = 0x71 ∧
      (retuning 0x71 .retune2 .retune2 1 []).rTs ≠ (retuning 0x71 .retune2 .retune2 1 []).cfg.retuneNow ∧
      byteAt lmsPacket 0 ≠ 0x54 ∧ byteAt lmsPacket 0 ≠ 0x55 := by decide

theorem witness_EveryStepKeepsCoherence :
    Coherent (lmsSending [.ok]) ∧ ∃ t, step (lmsSending [.ok]) = .next t := ⟨lms_sending_coherent _, _, rfl⟩

/-- A response awaited in `D_RECV`. -/
theorem witness_EveryStepKeepsAlternation :
    LinkInOrder (recorded (.sent 2 lmsPacket .ok) (lmsReceiving [.ok 16 lmsPacket])) ∧
      ∃ t, step (recorded (.sent 2 lmsPacket .ok) (lmsReceiving [.ok 16 lmsPacket])) = .next t :=
  ⟨⟨rfl, fun h => absurd rfl h⟩, _, rfl⟩

/-- A reset step too. -/
theorem witness_ConfigurationIsNeverWritten :
    (∃ t, step (lmsSending [.ok]) = .next t) ∧ ∃ t, step { lmsSending [] with env := { resetIn := [true] } } = .next t :=
  ⟨⟨_, rfl⟩, _, rfl⟩

theorem witness_PlainOperationEndsInThreeSteps :
    running (offering [⟨0x20, { addr := 0x12 }⟩] [.ok] [.ok 16 lmsPacket]) ∧
      (offering [⟨0x20, { addr := 0x12 }⟩] [.ok] [.ok 16 lmsPacket]).dState = .idle ∧ plainOpc 0x20 = true ∧
      decodeSpec cfg0 ⟨0x20, { addr := 0x12 }⟩ = some (.width .c8x8, lmsPacket) := ⟨⟨rfl, rfl⟩, rfl, by decide, by decide⟩

theorem witness_AgcTakesThirteenSteps :
    let r := RecvOutcome.ok 16 (frame 0x42 (bodyWithFlags 3))
    let s := offering [⟨0x34, {}⟩] [.ok, .ok, .ok, .ok, .ok, .ok] [r, r, r, r, r, r]
    running s ∧ s.dState = .idle ∧ s.env.offers = ⟨0x34, {}⟩ :: [] ∧ s.env.sends = [.ok, .ok, .ok, .ok, .ok, .ok] ++ [] ∧
      s.env.recvs = [r, r, r, r, r, r] ++ [] := ⟨⟨rfl, rfl⟩, rfl, rfl, rfl, rfl⟩

theorem witness_RetuneStateMovesByItsTable :
    Coherent (retuning 0x70 .retune .retune 7 [.terr 1]) ∧ running (retuning 0x70 .retune .retune 7 [.terr 1]) ∧
      ∃ t, step (retuning 0x70 .retune .retune 7 [.terr 1]) = .next t := ⟨retuning_coherent _, ⟨rfl, rfl⟩, _, rfl⟩

theorem witness_OtherOperationsKeepTheRetuneRegisters :
    Coherent (lmsReceiving [.ok 16 lmsPacket]) ∧ running (lmsReceiving [.ok 16 lmsPacket]) ∧
      ∃ t, step (lmsReceiving [.ok 16 lmsPacket]) = .next t ∧ retuneOpc t.sOp.opc = false :=
  ⟨lms_receiving_coherent _, ⟨rfl, rfl⟩, _, rfl, rfl⟩

/-- A failed step, a drained response, and a step that is neither. -/
theorem witness_LinkChangesOnlyByItsRule :
    (running (lmsReceiving [.terr 1]) ∧ ∃ t, step (lmsReceiving [.terr 1]) = .next t ∧ (lmsReceiving [.terr 1]).dState ≠ .idle ∧
      t.dState = .idle ∧ t.res.status = .transportError) ∧
    (running (receiving ⟨0x7F, {}⟩ (.width .c8x8) [.ok 16 lmsPacket]) ∧
      ∃ t, step (receiving ⟨0x7F, {}⟩ (.width .c8x8) [.ok 16 lmsPacket]) = .next t ∧ t.dState = .idle ∧ t.res.status = .ok) ∧
    running (lmsReceiving [.ok 16 zeroPacket]) ∧
      ∃ t, step (lmsReceiving [.ok 16 zeroPacket]) = .next t ∧ t.res.status = .framingError ∧ t.res.data.toNat < 256 :=
  ⟨⟨⟨rfl, rfl⟩, _, rfl, by decide, by decide, by decide⟩, ⟨⟨rfl, rfl⟩, _, rfl, by decide, by decide⟩, ⟨rfl, rfl⟩, _, rfl,
    by decide, by decide⟩

theorem witness_NoOldResultLeaks :
    running (lmsReceiving [.ok 16 lmsPacket]) ∧ ∃ t, step (lmsReceiving [.ok 16 lmsPacket]) = .next t ∧ t.dState = .idle ∧
      t.env ≠ (lmsReceiving [.ok 16 lmsPacket]).env := ⟨⟨rfl, rfl⟩, _, rfl, by decide, by decide⟩

theorem witness_OnlyABadInstantiationIsRefused :
    idle0.cfg.respLen = 16 ∧ ({ idle0 with cfg := { cfg0 with respLen := 15 } } : State).cfg.respLen ≠ 16 := by decide

end Sys2Proof.Tests
end

section
/-! The step as a function of the state, and the registers no step writes. -/

namespace Sys2Proof.Encoding

open Machine Laws

/-! The step of an instantiable machine. -/

theorem step_of_respLen {s : State} (h : s.cfg.respLen = 16) : step s = .next (nextState s) := by
  rw [step_eq, if_pos h]

/-- The step of a running machine is the enabled step (R205). -/
theorem step_running {s : State} (h : running s) : step s = .next (enabledStep s) := by
  obtain ⟨hlen, hreset⟩ := h
  rw [step_of_respLen hlen, nextState, hreset]

/-! No step writes a configuration register (R351). -/

theorem acceptRequest_cfg (d : OpDesc) (fam : Family) (B : Packet) (s : State) : (acceptRequest d fam B s).cfg = s.cfg := by
  rw [acceptRequest_eq]

theorem acceptStep_cfg (d : OpDesc) (s : State) : (acceptStep d s).cfg = s.cfg := by
  unfold acceptStep
  split
  · rfl
  · split
    · rfl
    · exact acceptRequest_cfg ..

theorem sendStep_cfg (s : State) : (sendStep s).cfg = s.cfg := by
  rcases sendStep_cases s with ⟨_, h⟩ | ⟨_, _, h⟩ | ⟨_, _, _, h⟩ <;> rw [h] <;> rfl

theorem receiveStep_cfg (out : RecvOutcome) (s : State) : (receiveStep out s).cfg = s.cfg := by
  cases out with
  | terr e => rfl
  | ok len B =>
    by_cases hdrain : s.sOp.opc = Opc.drain
    · rw [receiveStep_drain hdrain]; rfl
    · by_cases hl : len = s.cfg.respLen
      · rw [receiveStep_handle hdrain hl, (handle_keeps B _).1]
      · rw [receiveStep_length hdrain hl]; rfl

theorem enabledStep_cfg (s : State) : (enabledStep s).cfg = s.cfg := by
  unfold enabledStep
  cases s.dState with
  | idle =>
    cases s.env.offers with
    | nil => rfl
    | cons d rest => exact acceptStep_cfg d _
  | send => exact sendStep_cfg s
  | recv =>
    cases s.env.recvs with
    | nil => rfl
    | cons out rest => exact receiveStep_cfg out _

theorem nextState_cfg (s : State) : (nextState s).cfg = s.cfg := by
  unfold nextState
  cases s.env.resetIn with
  | nil => exact enabledStep_cfg s
  | cons b rest =>
    cases b with
    | false => exact enabledStep_cfg _
    | true => rfl

end Sys2Proof.Encoding
end

section
/-! The assembled bytes of the retune requests (30_encoding.md R104 to R107): O8, O9 and O10. -/

namespace Sys2Proof.Encoding

open Machine Laws

/-! The assembled bytes of the two retune requests, each at its place (R98, R100). -/

section
variable (ts : BitVec 64) (nint : BitVec 16) (nfrac : BitVec 32) (freqselB bandselB xbGpio : Byte)

theorem byteAt_retunePacket_9 : byteAt (retunePacket ts nint nfrac freqselB bandselB xbGpio) 9 = pllByte9 nint := by
  simp [retunePacket]

theorem byteAt_retunePacket_10 :
    byteAt (retunePacket ts nint nfrac freqselB bandselB xbGpio) 10 = pllByte10 nint nfrac := by
  simp [retunePacket]

theorem byteAt_retunePacket_11 : byteAt (retunePacket ts nint nfrac freqselB bandselB xbGpio) 11 = pllByte11 nfrac := by
  simp [retunePacket]

theorem byteAt_retunePacket_12 : byteAt (retunePacket ts nint nfrac freqselB bandselB xbGpio) 12 = pllByte12 nfrac := by
  simp [retunePacket]

theorem byteAt_retunePacket_13 : byteAt (retunePacket ts nint nfrac freqselB bandselB xbGpio) 13 = freqselB := by
  simp [retunePacket]

theorem byteAt_retunePacket_14 : byteAt (retunePacket ts nint nfrac freqselB bandselB xbGpio) 14 = bandselB := by
  simp [retunePacket]

end

theorem byteAt_retune2Packet_12 (ts : BitVec 64) (np : BitVec 16) (rffe portB spdt : Byte) :
    byteAt (retune2Packet ts np rffe portB spdt) 12 = portB := by
  simp [retune2Packet]

/-! The PLL tuning word (R104). -/

/-- The 32-bit PLL tuning word of R104: `nint[8:0]` above `nfrac[22:0]`. -/
def tuningWord (nint : BitVec 16) (nfrac : BitVec 32) : BitVec 32 :=
  ((nint &&& 0x1FF).setWidth 32 <<< 23) ||| (nfrac &&& 0x7FFFFF)

/-- The four bytes, byte 9 first, are the tuning word: bit by bit, each bit of the word is one bit of one byte. -/
theorem pllBytes_append (nint : BitVec 16) (nfrac : BitVec 32) :
    pllByte9 nint ++ pllByte10 nint nfrac ++ pllByte11 nfrac ++ pllByte12 nfrac = tuningWord nint nfrac := by
  apply BitVec.eq_of_getLsbD_eq
  intro i hi
  simp only [pllByte9, pllByte10, pllByte11, pllByte12, tuningWord, BitVec.getLsbD_append, BitVec.getLsbD_or,
    BitVec.getLsbD_and, BitVec.getLsbD_shiftLeft, BitVec.getLsbD_ushiftRight, BitVec.getLsbD_setWidth]
  interval_cases i <;> simp

/-- Equal byte strings end in equal bytes and agree before them. -/
theorem append_byte_inj {w : Nat} {v v' : BitVec w} {b b' : Byte} (h : v ++ b = v' ++ b') : v = v' ∧ b = b' := by
  have hn := congrArg BitVec.toNat h
  rw [toNat_append_byte, toNat_append_byte] at hn
  have := b.isLt
  have := b'.isLt
  exact ⟨BitVec.eq_of_toNat_eq (by omega), BitVec.eq_of_toNat_eq (by omega)⟩

/-- The packet sees the PLL operands through the tuning word only. -/
theorem retunePacket_of_tuningWord {nint nint' : BitVec 16} {nfrac nfrac' : BitVec 32}
    (h : tuningWord nint' nfrac' = tuningWord nint nfrac) (ts : BitVec 64) (freqselB bandselB xbGpio : Byte) :
    retunePacket ts nint' nfrac' freqselB bandselB xbGpio = retunePacket ts nint nfrac freqselB bandselB xbGpio := by
  rw [← pllBytes_append, ← pllBytes_append] at h
  obtain ⟨h, h12⟩ := append_byte_inj h
  obtain ⟨h, h11⟩ := append_byte_inj h
  obtain ⟨h9, h10⟩ := append_byte_inj h
  simp only [retunePacket, h9, h10, h11, h12]

/-- Masking to eight bits before a truncation to eight bits changes nothing. -/
theorem setWidth_and_byteMask {w : Nat} (v m : BitVec w) (h : m.setWidth 8 = 0xff#8) :
    (v &&& m).setWidth 8 = v.setWidth 8 := by
  rw [BitVec.setWidth_and, h]
  exact BitVec.and_allOnes

/-- Settles O8: the bytes are the pack's own, the 32-bit form is theirs bit by bit, and operands that agree on the bits of the
tuning word give the same word. -/
theorem pllWordIsPackedMostSignificantFirst : Obligations.PllWordIsPackedMostSignificantFirst := by
  intro chan freqsel vcocap xb ts nint nfrac lb qt P W
  have h9 : byteAt P 9 = pllByte9 nint := byteAt_retunePacket_9 ..
  have h10 : byteAt P 10 = pllByte10 nint nfrac := byteAt_retunePacket_10 ..
  have h11 : byteAt P 11 = pllByte11 nfrac := byteAt_retunePacket_11 ..
  have h12 : byteAt P 12 = pllByte12 nfrac := byteAt_retunePacket_12 ..
  refine ⟨h9, ?_, ?_, ?_, ?_, fun nint' nfrac' hi hf => ?_⟩
  · rw [h10, pllByte10, BitVec.setWidth_and (x := nfrac >>> 16)]
    rfl
  · rw [h11, pllByte11, setWidth_and_byteMask _ _ (by decide)]
  · rw [h12, pllByte12, setWidth_and_byteMask _ _ (by decide)]
  · rw [h9, h10, h11, h12]
    exact pllBytes_append nint nfrac
  · have hword : tuningWord nint' nfrac' = tuningWord nint nfrac := by rw [tuningWord, tuningWord, hi, hf]
    exact retunePacket_of_tuningWord hword ..

/-! The freqsel, bandsel and port bytes (R105 to R107). -/

theorem freqselByte_rx (freqsel : Byte) : freqselByte freqsel 0 = freqsel ||| 0x40 := by
  simp [freqselByte, chanRx, chanTx]

theorem freqselByte_tx (freqsel : Byte) : freqselByte freqsel 1 = freqsel ||| 0x80 := by
  simp [freqselByte, chanRx, chanTx]

/-- Settles O9: bytes 13 and 14 are the operands ORed with the channel bit and the two band flags, so a bit the caller sets
stays set. -/
theorem freqselAndBandselAreOredUnmasked : Obligations.FreqselAndBandselAreOredUnmasked := by
  intro freqsel vcocap xb ts nint nfrac lb qt rx tx
  have hrx : byteAt rx 13 = freqsel ||| 0x40 := (byteAt_retunePacket_13 ..).trans (freqselByte_rx freqsel)
  have htx : byteAt tx 13 = freqsel ||| 0x80 := (byteAt_retunePacket_13 ..).trans (freqselByte_tx freqsel)
  have hrx14 : byteAt rx 14 = bandselByte vcocap lb qt := byteAt_retunePacket_14 ..
  have htx14 : byteAt tx 14 = bandselByte vcocap lb qt := byteAt_retunePacket_14 ..
  refine ⟨hrx, htx, fun h7 => ?_, fun h6 => ?_, hrx14, htx14.trans hrx14.symm⟩
  · rw [hrx, BitVec.getLsbD_or, h7, Bool.true_or]
  · rw [htx, BitVec.getLsbD_or, h6, Bool.true_or]

/-- Bits 6:0 of the port byte are the caller's, whatever bit 7 becomes (R107). -/
theorem portByte_low (port chan : Byte) : portByte port chan &&& 0x7F = port &&& 0x7F := by
  unfold portByte
  split <;> simp [BitVec.and_or_distrib_right, BitVec.and_assoc]

/-- Bit 7 of the port byte is not the caller's: it is set where the caller's is clear and the channel is not TX (R107). -/
theorem portByte_bit7 (port chan : Byte) :
    (portByte port chan).getLsbD 7 = decide (port.getLsbD 7 = false ∧ chan ≠ chanTx) := by
  have hlow : (port &&& 0x7f).getLsbD 7 = false := by simp
  rw [portByte, BitVec.getLsbD_or, hlow, Bool.false_or]
  split
  · next h => rw [decide_eq_true h]; rfl
  · next h => rw [decide_eq_false h]; rfl

/-- Settles O10: byte 12 is the port byte, whose low seven bits are the caller's and whose bit 7 is the truth table's. -/
theorem portByteFollowsItsTruthTable : Obligations.PortByteFollowsItsTruthTable := by
  intro chan rffe port spdt ts np _ b
  have hb : b = portByte port chan := byteAt_retune2Packet_12 ..
  refine ⟨hb ▸ portByte_low port chan, fun h7 hc => ?_, fun _ hc => ?_, fun h7 => ?_⟩
  · rw [hb, portByte_bit7, h7, hc]; decide
  · rw [hb, portByte_bit7, hc]; simp [chanTx]
  · rw [hb, portByte_bit7, h7]; simp

end Sys2Proof.Encoding
end

section
/-! A response whose magic is not the tag of the family in flight (30_encoding.md R109): O37. -/

namespace Sys2Proof.Encoding

open Machine Laws

/-- Raising an error of R304 with nothing else written is the failed state of Safety.lean (R321, R322, R323). -/
theorem raise_eq_failedState {e : Status} (he : leavesRetuneUnknown e = true) (info : BitVec 64) (s : State) :
    raise e info {} s = failedState e info s := by
  simp only [raise, he, and_true]
  rfl

/-- The same where the handler has written `R_ERR` already: in a retune, `raise` writes it anyway (R303, R304). -/
theorem raise_err_eq_failedState {e : Status} {s : State} (he : leavesRetuneUnknown e = true)
    (hop : retuneOpc s.sOp.opc = true) (info : BitVec 64) :
    raise e info {} { s with rState := .err } = failedState e info s := by
  rw [raise_eq_failedState he]
  simp only [failedState, rStateAfterError, hop, if_true]

/-- What a response's magic is checked against is the tag of the operation in flight: the sequencer runs on family 8x16, and
only a retune has a retune family in flight (R191, R247). -/
structure FamilyFitsOp (s : State) : Prop where
  agc : s.sOp.opc = Opc.agcDcWrite → s.sFam = .width .c8x16
  retune : s.sFam = .retune ∨ s.sFam = .retune2 → retuneOpc s.sOp.opc = true

/-- A coherent state with an operation other than `DRAIN` in flight has the operation's family in `s_fam`. -/
theorem familyFitsOp_of_coherent {s : State} (hc : Coherent s) (hbusy : s.dState ≠ .idle) (hop : s.sOp.opc ≠ 0x7F) :
    FamilyFitsOp s := by
  obtain ⟨hretune, hretune2⟩ := hc.family_of_op hbusy hop
  refine ⟨fun hagc => (hc.agc_in_flight hbusy hagc).1, fun hfam => ?_⟩
  rcases hfam with hf | hf
  · rw [hretune.mp hf]; decide
  · rw [hretune2.mp hf]; decide

/-- Every handler rejects a foreign magic, with the byte found as the info and `R_ERR` in a retune (R109, R222, R247, R303). -/
theorem handle_foreign {s : State} {B : Packet} (hs : FamilyFitsOp s) (hm : byteAt B 0 ≠ familyMagic s.sFam) :
    handle B s = failedState .framingError ((byteAt B 0).setWidth 64) s := by
  by_cases hagc : s.sOp.opc = Opc.agcDcWrite
  · rw [hs.agc hagc] at hm
    rw [handle_agc hagc, handleAgc_foreign hm, raise_eq_failedState rfl]
  · cases hf : s.sFam with
    | width c =>
      rw [hf] at hm
      rw [handle_width hagc hf, ← raise_eq_failedState rfl]
      rcases handleWidth_cases c B s with ⟨_, h⟩ | ⟨h, _⟩
      · exact h
      · exact absurd h hm
    | retune =>
      rw [hf] at hm
      rw [handle_retune hagc hf, unpackRetune, if_pos hm]
      exact raise_err_eq_failedState rfl (hs.retune (.inl hf)) _
    | retune2 =>
      rw [hf] at hm
      rw [handle_retune2 hagc hf, unpackRetune2, if_pos hm]
      exact raise_err_eq_failedState rfl (hs.retune (.inr hf)) _

/-- Settles O37: the receive step hands the buffer to the handler of the operation in flight, and every handler rejects a
magic that is not its family's. -/
theorem foreignMagicIsAFramingError : Obligations.ForeignMagicIsAFramingError := by
  intro s B rest hrun hc hrecv hop hin hm
  have hfits : FamilyFitsOp s := familyFitsOp_of_coherent hc (by simp [hrecv]) hop
  have hhandle := receiveStep_handle (s := withRecvs rest (recorded (.received s.cfg.respEp (.ok 16 B)) s)) hop
    hrun.1.symm B
  rw [step_running hrun, enabledStep_response hrecv hin, hhandle]
  exact congrArg _ (handle_foreign ⟨hfits.agc, hfits.retune⟩ hm)

end Sys2Proof.Encoding
end

section
/-! Pseudo-operations (30_encoding.md R116): O33. Two runs that differ in the descriptor in `s_op` only. `withOp d` exchanges
the descriptor; every step of an operation in flight commutes with it, as long as neither descriptor is one that a handler
looks for, and the accept step and reset overwrite the descriptor. -/

namespace Sys2Proof.Encoding

open Machine Laws

/-- `s` with the descriptor `d` in `s_op`. -/
def withOp (d : OpDesc) (s : State) : State := { s with sOp := d }

@[simp] theorem withOp_sOp (d : OpDesc) (s : State) : (withOp d s).sOp = d := rfl
@[simp] theorem withOp_cfg (d : OpDesc) (s : State) : (withOp d s).cfg = s.cfg := rfl
@[simp] theorem withOp_rTs (d : OpDesc) (s : State) : (withOp d s).rTs = s.rTs := rfl
@[simp] theorem withOp_env (d : OpDesc) (s : State) : (withOp d s).env = s.env := rfl

/-- An operation no step looks for by its code: default post-processing, no sequencer, no drain, no retune (R194, R222, R304). -/
def Unnoticed (opc : BitVec 8) : Prop := plainOpc opc = true ∧ retuneOpc opc = false

/-- The codes an unnoticed operation does not have, in the model's own spelling. -/
theorem unnoticed_iff {opc : BitVec 8} :
    Unnoticed opc ↔ (opc ≠ Opc.tamerGet ∧ opc ≠ Opc.agcDcWrite ∧ opc ≠ Opc.fpgaVersionRead ∧ opc ≠ Opc.expgpioRead ∧
      opc ≠ Opc.expgpioDirRead ∧ opc ≠ Opc.drain) ∧ isRetuneOpc opc = false := by
  refine and_congr ?_ Iff.rfl
  simp [plainOpc, Opc.tamerGet, Opc.agcDcWrite, Opc.fpgaVersionRead, Opc.expgpioRead, Opc.expgpioDirRead, Opc.drain]

theorem Unnoticed.ne_agcDcWrite {opc : BitVec 8} (h : Unnoticed opc) : opc ≠ Opc.agcDcWrite := by
  obtain ⟨⟨-, hagc, -⟩, -⟩ := unnoticed_iff.mp h
  exact hagc

theorem Unnoticed.ne_drain {opc : BitVec 8} (h : Unnoticed opc) : opc ≠ Opc.drain := by
  obtain ⟨⟨-, -, -, -, -, hdrain⟩, -⟩ := unnoticed_iff.mp h
  exact hdrain

/-- Ending with an error, told without the descriptor. -/
theorem raise_of_unnoticed {s : State} (h : Unnoticed s.sOp.opc) (e : Status) (info : BitVec 64) (r : Result) :
    raise e info r s = finish { r with status := e, data := info } s := by
  rw [raise_known (.inl h.2), if_neg h.ne_agcDcWrite]

/-- The default post-processing (R222). -/
theorem post_of_unnoticed {d : OpDesc} (h : Unnoticed d.opc) (v : BitVec 64) (r : Result) :
    post d v r = .ok { r with data := v } := by
  obtain ⟨⟨htamer, -, hversion, hgpio, hdir, -⟩, -⟩ := unnoticed_iff.mp h
  simp [post, htamer, hversion, hgpio, hdir]

section
variable {s : State} {d : OpDesc} (hs : Unnoticed s.sOp.opc) (hd : Unnoticed d.opc)
include hs hd

theorem raise_withOp (e : Status) (info : BitVec 64) (r : Result) :
    raise e info r (withOp d s) = withOp d (raise e info r s) := by
  rw [raise_of_unnoticed hs, raise_of_unnoticed (s := withOp d s) hd]
  rfl

theorem handleWidth_withOp (c : WidthClass) (B : Packet) :
    handleWidth c B (withOp d s) = withOp d (handleWidth c B s) := by
  unfold handleWidth
  cases unpack c B with
  | error m => exact raise_withOp hs hd ..
  | ok u =>
    simp only [withOp_sOp, post_of_unnoticed hs, post_of_unnoticed hd, apply_ite (withOp d), raise_withOp hs hd]
    rfl

theorem settleRetune_withOp (u : RetuneReply) : settleRetune u (withOp d s) = withOp d (settleRetune u s) := by
  unfold settleRetune
  rw [withOp_rTs, withOp_cfg]
  cases interpretRetune u.success s.rTs s.cfg.retuneNow
  case ok => rfl
  case tuneFailure => exact raise_withOp (s := { s with rState := .fail }) hs hd ..
  all_goals exact raise_withOp (s := { s with rState := .qfull }) hs hd ..

theorem handleRetune_withOp (reply : Except Byte RetuneReply) :
    handleRetune reply (withOp d s) = withOp d (handleRetune reply s) := by
  cases reply with
  | error m => exact raise_withOp (s := { s with rState := .err }) hs hd ..
  | ok u => exact settleRetune_withOp hs hd u

theorem handle_withOp (B : Packet) : handle B (withOp d s) = withOp d (handle B s) := by
  cases hf : s.sFam with
  | width c =>
    rw [handle_width hs.ne_agcDcWrite hf, handle_width (s := withOp d s) hd.ne_agcDcWrite hf]
    exact handleWidth_withOp hs hd c B
  | retune =>
    rw [handle_retune hs.ne_agcDcWrite hf, handle_retune (s := withOp d s) hd.ne_agcDcWrite hf]
    exact handleRetune_withOp hs hd _
  | retune2 =>
    rw [handle_retune2 hs.ne_agcDcWrite hf, handle_retune2 (s := withOp d s) hd.ne_agcDcWrite hf]
    exact handleRetune_withOp hs hd _

theorem transportFailed_withOp (e : BitVec 8) : transportFailed e (withOp d s) = withOp d (transportFailed e s) :=
  raise_withOp (s := { s with dLink := .unsync }) hs hd ..

theorem sendStep_withOp : sendStep (withOp d s) = withOp d (sendStep s) := by
  unfold sendStep
  rw [withOp_env]
  cases s.env.sends with
  | nil => rfl
  | cons out rest =>
    cases out with
    | ok => rfl
    | terr e =>
      exact transportFailed_withOp (s := withSends rest (recorded (.sent s.cfg.cmdEp s.dReq (.terr e)) s)) hs hd e

theorem receiveStep_withOp (out : RecvOutcome) : receiveStep out (withOp d s) = withOp d (receiveStep out s) := by
  cases out with
  | terr e => exact transportFailed_withOp hs hd e
  | ok len B =>
    by_cases hl : len = s.cfg.respLen
    · rw [receiveStep_handle hs.ne_drain hl, receiveStep_handle (s := withOp d s) hd.ne_drain hl]
      exact handle_withOp (s := { s with dResp := B }) hs hd B
    · rw [receiveStep_length hs.ne_drain hl, receiveStep_length (s := withOp d s) hd.ne_drain hl]
      exact raise_withOp (s := { s with dLink := .unsync }) hs hd ..

end

/-- Two states that no step tells apart: equal, or with two unnoticed descriptors in `s_op` and nothing else different. -/
def AgreeButOp (t u : State) : Prop := u = t ∨ (Unnoticed t.sOp.opc ∧ ∃ d, Unnoticed d.opc ∧ u = withOp d t)

theorem AgreeButOp.eq_but_sOp {t u : State} (h : AgreeButOp t u) : { t with sOp := {} } = { u with sOp := {} } := by
  rcases h with rfl | ⟨-, d, -, rfl⟩ <;> rfl

theorem AgreeButOp.cfg_eq {t u : State} (h : AgreeButOp t u) : u.cfg = t.cfg := by
  rcases h with rfl | ⟨-, d, -, rfl⟩ <;> rfl

/-- What commutes with every exchange of the descriptor keeps the agreement. Exchanging the descriptor for itself says that
the step keeps it. -/
theorem agreeButOp_of_commutes {f : State → State} {s : State} {d : OpDesc} (hs : Unnoticed s.sOp.opc)
    (hd : Unnoticed d.opc) (hf : ∀ e : OpDesc, Unnoticed e.opc → f (withOp e s) = withOp e (f s)) :
    AgreeButOp (f s) (f (withOp d s)) := by
  have hself : f s = withOp s.sOp (f s) := hf s.sOp hs
  have hkeep : (f s).sOp = s.sOp := by rw [hself, withOp_sOp]
  exact .inr ⟨hkeep ▸ hs, d, hd, hf d hd⟩

/-- The accept step overwrites the descriptor. -/
theorem acceptStep_withOp (d e : OpDesc) (s : State) : acceptStep e (withOp d s) = acceptStep e s := rfl

theorem enabledStep_agree {t u : State} (h : AgreeButOp t u) : AgreeButOp (enabledStep t) (enabledStep u) := by
  rcases h with rfl | ⟨ht, d, hd, rfl⟩
  · exact .inl rfl
  cases hst : t.dState with
  | idle =>
    cases ho : t.env.offers with
    | nil =>
      rw [enabledStep_no_offer hst ho, enabledStep_no_offer (s := withOp d t) hst ho]
      exact .inr ⟨ht, d, hd, rfl⟩
    | cons e rest =>
      rw [enabledStep_offer hst ho, enabledStep_offer (s := withOp d t) hst ho]
      exact .inl (acceptStep_withOp d e (withOffers rest t))
  | send =>
    rw [enabledStep_send hst, enabledStep_send (s := withOp d t) hst]
    exact agreeButOp_of_commutes ht hd fun e he => sendStep_withOp ht he
  | recv =>
    cases hr : t.env.recvs with
    | nil =>
      rw [enabledStep_no_response hst hr, enabledStep_no_response (s := withOp d t) hst hr]
      exact .inr ⟨ht, d, hd, rfl⟩
    | cons out rest =>
      rw [enabledStep_response hst hr, enabledStep_response (s := withOp d t) hst hr]
      exact agreeButOp_of_commutes (s := withRecvs rest (recorded (.received t.cfg.respEp out) t)) ht hd
        fun e he => receiveStep_withOp (s := withRecvs rest (recorded (.received t.cfg.respEp out) t)) ht he out

theorem withResets_agree {t u : State} (h : AgreeButOp t u) (l : List Bool) :
    AgreeButOp (withResets l t) (withResets l u) := by
  rcases h with rfl | ⟨ht, d, hd, rfl⟩
  · exact .inl rfl
  · exact .inr ⟨ht, d, hd, rfl⟩

theorem AgreeButOp.env_eq {t u : State} (h : AgreeButOp t u) : u.env = t.env := by
  rcases h with rfl | ⟨-, d, -, rfl⟩ <;> rfl

/-- Reset overwrites the descriptor, the enabled step keeps the agreement. -/
theorem nextState_agree {t u : State} (h : AgreeButOp t u) : AgreeButOp (nextState t) (nextState u) := by
  unfold nextState
  rw [h.env_eq]
  cases t.env.resetIn with
  | nil => exact enabledStep_agree h
  | cons b rest =>
    cases b with
    | false => exact enabledStep_agree (withResets_agree h rest)
    | true =>
      refine .inl ?_
      rcases h with rfl | ⟨-, d, -, rfl⟩ <;> rfl

/-- Runs of any length from states that agree go on, and end in states that agree. -/
theorem run_agree (n : Nat) : ∀ {t u : State}, t.cfg.respLen = 16 → AgreeButOp t u →
    ∃ t' u', Host.Core.run Sys2Proof.core n t = .next t' ∧ Host.Core.run Sys2Proof.core n u = .next u' ∧
      AgreeButOp t' u' := by
  induction n with
  | zero => exact fun _ h => ⟨_, _, rfl, rfl, h⟩
  | succ n ih =>
    intro t u hlen h
    have hlen' : u.cfg.respLen = 16 := by rw [h.cfg_eq, hlen]
    rw [run_succ (step_of_respLen hlen), run_succ (step_of_respLen hlen')]
    exact ih (by rw [nextState_cfg, hlen]) (nextState_agree h)

/-! The accept steps of a pseudo-operation and of its expansion. -/

/-- The generic access of a family (R113, R116). -/
def genericOpc : WidthClass → BitVec 8
  | .c8x8 => 0x10
  | .c8x16 => 0x11
  | .c8x32 => 0x12
  | .c16x64 => 0x13
  | .c32x32 => 0x14

/-- The operands of an expansion: the caller's, with the target and the write flag of the row (R116). -/
def expansionFields (r : MapRow) (o : OpFields) : OpFields := { o with target := r.target, write := r.write }

theorem requestOf_generic (cfg : Cfg) (c : WidthClass) (o : OpFields) :
    requestOf cfg ⟨genericOpc c, o⟩ = genericRequest c o := by
  cases c <;> rfl

theorem unnoticed_genericOpc (c : WidthClass) : Unnoticed (genericOpc c) := by
  cases c <;> exact ⟨rfl, rfl⟩

/-- A named operation of the target register map has the request of its expansion. -/
theorem requestOf_mapRow {r : MapRow} (hr : r ∈ targetMap) (cfg : Cfg) (o : OpFields) :
    requestOf cfg ⟨r.opc, o⟩ = genericRequest r.cls (expansionFields r o) := by
  unfold targetMap at hr
  fin_cases hr <;> rfl

/-- The rows with no masked post-processing are unnoticed (R264 to R267 are the masked ones). -/
theorem unnoticed_mapRow {r : MapRow} (hr : r ∈ targetMap)
    (hmask : r.opc ∉ ([0x60, 0x61, 0x62, 0x63] : List (BitVec 8))) : Unnoticed r.opc := by
  revert r
  unfold Unnoticed
  decide

/-- A descriptor with a request decodes, and its instruction is accepted with that request (R192). -/
theorem exists_accepted {s : State} {d : OpDesc} {fam : Family} {B : Packet} (hidle : s.dState = .idle)
    (hdrain : d.opc ≠ Opc.drain) (hreq : requestOf s.cfg d = some (fam, B)) :
    ∃ i, decode (.op d) = .ok i ∧ exec i s = .next (acceptRequest d fam B s) := by
  cases hi : decode (.op d) with
  | error e =>
    obtain ⟨-, hnone⟩ := requestOf_of_error hi s.cfg
    rw [hnone] at hreq
    cases hreq
  | ok i =>
    refine ⟨i, rfl, ?_⟩
    rw [exec_of_op (encode_of_decodeOp hi) hdrain, hreq]
    exact accept_requested hidle ..

/-- Two unnoticed operations accepted with one request leave states that agree. -/
theorem acceptRequest_agree {d e : OpDesc} (hd : Unnoticed d.opc) (he : Unnoticed e.opc) (fam : Family) (B : Packet)
    (s : State) : AgreeButOp (acceptRequest d fam B s) (acceptRequest e fam B s) := by
  have hd' : isRetuneOpc d.opc = false := hd.2
  have he' : isRetuneOpc e.opc = false := he.2
  refine .inr ⟨?_, e, he, ?_⟩
  · rw [acceptRequest_eq]; exact hd
  · rw [acceptRequest_eq, acceptRequest_eq, hd', he']; rfl

/-- Settles O33: the two accept steps build the same request, and from there on every step keeps the agreement. -/
theorem pseudoOperationsMatchTheirExpansion : Obligations.PseudoOperationsMatchTheirExpansion := by
  intro o s r hlen hidle hr hmask
  have hnamed : Unnoticed r.opc := unnoticed_mapRow hr hmask
  have hgeneric : Unnoticed (genericOpc r.cls) := unnoticed_genericOpc r.cls
  obtain ⟨i, hi, ht⟩ := exists_accepted (d := ⟨r.opc, o⟩) hidle hnamed.ne_drain (requestOf_mapRow hr s.cfg o)
  obtain ⟨j, hj, hu⟩ := exists_accepted (d := ⟨genericOpc r.cls, expansionFields r o⟩) hidle hgeneric.ne_drain
    (requestOf_generic s.cfg r.cls _)
  refine ⟨i, j, _, _, hi, hj, ht, hu, fun n => ?_⟩
  have hstart := acceptRequest_agree (d := ⟨r.opc, o⟩) (e := ⟨genericOpc r.cls, expansionFields r o⟩) hnamed hgeneric
  have hlen' : ∀ d fam B, (acceptRequest d fam B s).cfg.respLen = 16 := fun d fam B => by rw [acceptRequest_cfg, hlen]
  obtain ⟨t', u', hrunT, hrunU, hagree⟩ := run_agree n (hlen' ..) (hstart _ _ s)
  exact ⟨t', u', hrunT, hrunU, hagree.eq_but_sOp⟩

end Sys2Proof.Encoding
end

section
/-! The fields of a packet and the five packs (00_scope.md R10, R12; 40_width_codecs.md R130, R147): O1 and O5. -/

namespace Sys2Proof.WidthCodecs

open Machine Laws

/-! A little-endian field: its bound, its truncation, and what is read back from it (R10, R12). -/

theorem fieldBound_succ (n : Nat) : 2 ^ (8 * (n + 1)) = 256 * 2 ^ (8 * n) := by
  rw [Nat.mul_succ, Nat.pow_add, Nat.mul_comm]

theorem memRead_lt (B : Packet) (off n : Nat) : memRead B off n < 2 ^ (8 * n) := by
  induction n generalizing off with
  | zero => exact Nat.one_pos
  | succ n ih =>
    have hbyte := (byteAt B off).isLt
    have htail := ih (off + 1)
    rw [memRead, fieldBound_succ]
    omega

/-- `MemWrite` drops the bits of the value above its field (R12). -/
theorem memWrite_mod (B : Packet) (off n v : Nat) : memWrite B off n v = memWrite B off n (v % 2 ^ (8 * n)) := by
  induction n generalizing B off v with
  | zero => rfl
  | succ n ih =>
    have hlow : BitVec.ofNat 8 (v % (256 * 2 ^ (8 * n))) = BitVec.ofNat 8 v :=
      BitVec.eq_of_toNat_eq (by simp)
    have hhigh : v % (256 * 2 ^ (8 * n)) / 256 = v / 256 % 2 ^ (8 * n) := Nat.mod_mul_right_div_self ..
    rw [memWrite, memWrite, fieldBound_succ, hlow, hhigh, ← ih]

/-- Reading a field back gives the value written, truncated to the field. -/
theorem memRead_memWrite (B : Packet) (off n v : Nat) (h : off + n ≤ 16) :
    memRead (memWrite B off n v) off n = v % 2 ^ (8 * n) := by
  induction n generalizing B off v with
  | zero => exact (Nat.mod_one v).symm
  | succ n ih =>
    have hfirst : byteAt (memWrite B off (n + 1) v) off = BitVec.ofNat 8 v := by
      simpa using byteAt_memWrite_inside (n + 1) B off v 0 (by omega) (by omega)
    rw [memRead, hfirst, memWrite, ih _ _ _ (by omega), fieldBound_succ, Nat.mod_mul]
    rfl

/-- A field is not changed by a write to another. -/
theorem memRead_memWrite_disjoint (B : Packet) {off n off' n' : Nat} (v : Nat) (h : off + n ≤ off' ∨ off' + n' ≤ off) :
    memRead (memWrite B off' n' v) off n = memRead B off n :=
  memRead_congr _ _ _ _ fun j _ _ => byteAt_memWrite_outside _ _ _ _ _ (by omega)

/-- Byte `k` of a value truncated to a width that holds it is byte `k` of the value. -/
theorem byteOf_ofNat {w k : Nat} (v : Nat) (h : 8 * (k + 1) ≤ w) :
    byteOf (BitVec.ofNat w v) k = BitVec.ofNat 8 (v / 256 ^ k) := by
  apply BitVec.eq_of_getLsbD_eq
  intro i hi
  have hw : 8 * k + i < w := by omega
  rw [byteOf, BitVec.getLsbD_extractLsb', BitVec.getLsbD_ofNat, BitVec.getLsbD_ofNat, show 256 = 2 ^ 8 from rfl,
    ← Nat.pow_mul, Nat.testBit_div_two_pow, Nat.add_comm i, decide_eq_true hw, Bool.true_and]

/-- The low bits of a truncated value are the value truncated further. -/
theorem extractLsb'_ofNat {w n : Nat} (v : Nat) (h : n ≤ w) : (BitVec.ofNat w v).extractLsb' 0 n = BitVec.ofNat n v :=
  BitVec.eq_of_toNat_eq (by simp [BitVec.extractLsb'_toNat, Nat.mod_mod_of_dvd _ (Nat.pow_dvd_pow 2 h)])

/-! The layout of each class (R93 to R97). -/

/-- A byte written into a packet whose bytes are listed. -/
theorem setByteAt_toArray (l : List Byte) (h : l.toArray.size = 16) (i : Nat) (v : Byte) :
    setByteAt ⟨l.toArray, h⟩ i v = ⟨(l.set i v).toArray, by simpa using h⟩ := by
  simp [setByteAt]

/-- The pack of a class is its layout: the writes of R130, one byte after another into the zero packet, and the bytes of the
two truncated values are the bytes these writes take by division. -/
theorem pack_eq_layoutOf (c : WidthClass) (t : Nat) (w : Bool) (a d : Nat) :
    pack c t w a d = layoutOf c (BitVec.ofNat 8 t) (flagsOf w) (BitVec.ofNat 32 a) (BitVec.ofNat 64 d) := by
  cases c <;>
    simp [layoutOf, layout8x8, layout8x16, layout8x32, layout16x64, layout32x32, extractLsb'_ofNat, byteOf_ofNat, flagsOf,
      pack, setByteAt_toArray, zeroPacket, memWrite, Nat.div_div_eq_div_mul, widthMagic, requestFlags, addrOff, addrWidth,
      dataOff, dataWidth]

/-- Settles O1: the packs are the layouts of their classes, and the examples of the five rules are evaluated. -/
theorem packLaysOutEveryClass : Obligations.PackLaysOutEveryClass := by
  refine ⟨fun t a d w => ?_, by decide, by decide, by decide, by decide, by decide⟩
  have haddr : byteOf (BitVec.ofNat 32 a) 0 = BitVec.ofNat 8 a := extractLsb'_ofNat a (by decide)
  have hdata : byteOf (BitVec.ofNat 64 d) 0 = BitVec.ofNat 8 d := extractLsb'_ofNat d (by decide)
  simp only [pack_eq_layoutOf, layoutOf, haddr, hdata, extractLsb'_ofNat, Nat.reduceLeDiff, and_self]

/-- Settles O5: each of the three operands reaches the packet through one truncating write. -/
theorem packTruncatesItsOperands : Obligations.PackTruncatesItsOperands := by
  intro c t a d w
  have htarget : BitVec.ofNat 8 (t % 2 ^ 8) = BitVec.ofNat 8 t := BitVec.eq_of_toNat_eq (by simp)
  rw [pack, pack, htarget, ← memWrite_mod, ← memWrite_mod]

end Sys2Proof.WidthCodecs
end

section
/-! The five unpacks and the verdicts (40_width_codecs.md R131, R134, R145, R146): O2, O3, O4 and O6. -/

namespace Sys2Proof.WidthCodecs

open Machine Laws

/-! The value of a field, at any width (R11). -/

/-- A field zero-extended or truncated to any width. -/
theorem ofNat_memRead (w : Nat) (B : Packet) (off n : Nat) :
    BitVec.ofNat w (memRead B off n) = (BitVec.ofNat (8 * n) (memRead B off n)).setWidth w :=
  BitVec.eq_of_toNat_eq (by simp [Nat.mod_eq_of_lt (memRead_lt B off n)])

theorem addressField_narrow (B : Packet) : BitVec.ofNat 32 (memRead B 4 1) = (byteAt B 4).setWidth 32 := by
  rw [ofNat_memRead, ofNat_memRead_one]

theorem addressField_16x64 (B : Packet) :
    BitVec.ofNat 32 (memRead B 4 2) = (byteAt B 5 ++ byteAt B 4).setWidth 32 := by
  rw [ofNat_memRead, ofNat_memRead_two]

/-- The data field of each class is the bytes the format lists. -/
theorem dataField_eq_dataOf (c : WidthClass) (B : Packet) :
    BitVec.ofNat 64 (memRead B (dataOff c) (dataWidth c)) = dataOf c B := by
  cases c with
  | c8x8 => exact (ofNat_memRead ..).trans (congrArg _ (ofNat_memRead_one B 5))
  | c8x16 => exact (ofNat_memRead ..).trans (congrArg _ (ofNat_memRead_two B 5))
  | c8x32 => exact (ofNat_memRead ..).trans (congrArg _ (ofNat_memRead_four B 5))
  | c16x64 => exact ofNat_memRead_eight B 6
  | c32x32 => exact (ofNat_memRead ..).trans (congrArg _ (ofNat_memRead_four B 8))

/-! `unpack_C` and `verdict_C`, case by case (R131, R134). -/

section
variable {c : WidthClass} {B : Packet}

theorem unpack_foreign (h : byteAt B 0 ≠ widthMagic c) : unpack c B = .error (byteAt B 0) := if_pos h

theorem unpack_own (h : byteAt B 0 = widthMagic c) :
    unpack c B = .ok
      { target := byteAt B 1
        write := flagWrite (byteAt B 2)
        address := BitVec.ofNat 32 (memRead B (addrOff c) (addrWidth c))
        data := dataOf c B
        success := if definesSuccess c then some (flagBit1 (byteAt B 2)) else none
        flag1 := flagBit1 (byteAt B 2) } := by
  rw [unpack, if_neg (not_not_intro h), dataField_eq_dataOf]

theorem verdict_foreign (h : byteAt B 0 ≠ widthMagic c) : verdict c B = .framingError := if_pos h

theorem verdict_failed (h : byteAt B 0 = widthMagic c) (hf : definesSuccess c = true ∧ flagBit1 (byteAt B 2) = false) :
    verdict c B = .operationFailed := by
  rw [verdict, if_neg (not_not_intro h), if_pos hf]

theorem verdict_ok (h : byteAt B 0 = widthMagic c) (hf : ¬(definesSuccess c = true ∧ flagBit1 (byteAt B 2) = false)) :
    verdict c B = .ok := by
  rw [verdict, if_neg (not_not_intro h), if_neg hf]

end

/-- The classes whose responses carry a success bit (R132). -/
theorem definesSuccess_iff (c : WidthClass) : definesSuccess c = true ↔ c = .c8x32 ∨ c = .c16x64 ∨ c = .c32x32 := by
  cases c <;> decide

/-- Settles O2: a foreign magic is the error, and with its own magic each class reads the listed bytes. -/
theorem unpackReadsEveryClass : Obligations.UnpackReadsEveryClass := by
  refine fun B => ⟨fun c h => unpack_foreign h, fun h => ?_, fun h => ?_, fun h => ?_, fun h => ?_, fun h => ?_⟩
  · exact ⟨_, unpack_own h, rfl, rfl, addressField_narrow B, rfl, rfl⟩
  · exact ⟨_, unpack_own h, rfl, rfl, addressField_narrow B, rfl, rfl⟩
  · rw [unpack_own h, ← addressField_narrow]; rfl
  · rw [unpack_own h, ← addressField_16x64]; rfl
  · rw [unpack_own h, ← ofNat_memRead_four]; rfl

/-- Settles O4: the byte written over the magic is the one `unpack` and `verdict` look at. -/
theorem corruptedMagicIsRejected : Obligations.CorruptedMagicIsRejected := by
  intro c B m _ hm
  have hfound : byteAt (setByteAt B 0 m) 0 = m := by simp
  have hforeign : byteAt (setByteAt B 0 m) 0 ≠ widthMagic c := by rwa [hfound]
  exact ⟨(unpack_foreign hforeign).trans (congrArg _ hfound), verdict_foreign hforeign⟩

/-! What the fields of a packed request read as (R145). -/

/-- The two fields of a class follow the four header bytes, apart from each other and inside the packet (R132). -/
theorem fields_fit (c : WidthClass) :
    addrOff c = 4 ∧ addrOff c + addrWidth c ≤ dataOff c ∧ dataOff c + dataWidth c ≤ 16 ∧ addrWidth c ≤ 4 ∧
      dataWidth c ≤ 8 := by
  cases c <;> decide

section
variable (c : WidthClass) (t : Nat) (w : Bool) (a d : Nat)

/-- The header bytes of a pack are not touched by its field writes. -/
theorem byteAt_pack_header {i : Nat} (hi : i < 4) :
    byteAt (pack c t w a d) i =
      if i = 0 then widthMagic c else if i = 1 then BitVec.ofNat 8 t else if i = 2 then requestFlags w else 0 := by
  obtain ⟨haddr, hdata, -⟩ := fields_fit c
  rw [pack, byteAt_memWrite_outside _ _ _ _ _ (by omega), byteAt_memWrite_outside _ _ _ _ _ (by omega)]
  interval_cases i <;> simp [byteAt_zeroPacket]

theorem address_pack : memRead (pack c t w a d) (addrOff c) (addrWidth c) = a % 2 ^ (8 * addrWidth c) := by
  obtain ⟨-, hdata, hend, -⟩ := fields_fit c
  rw [pack, memRead_memWrite_disjoint _ _ (.inl hdata), memRead_memWrite _ _ _ _ (by omega)]

theorem data_pack : memRead (pack c t w a d) (dataOff c) (dataWidth c) = d % 2 ^ (8 * dataWidth c) := by
  obtain ⟨-, -, hend, -⟩ := fields_fit c
  rw [pack, memRead_memWrite _ _ _ _ hend]

end

theorem flagWrite_requestFlags (w : Bool) : flagWrite (requestFlags w) = w := by cases w <;> rfl

theorem flagBit1_requestFlags (w : Bool) : flagBit1 (requestFlags w) = false := by cases w <;> rfl

/-- Settles O3: the header bytes and the two fields read back, and operands that fit are not truncated. -/
theorem unpackOfPackGivesTheTuple : Obligations.UnpackOfPackGivesTheTuple := by
  intro c t a d w ht ha hd
  obtain ⟨-, -, -, hwa, hwd⟩ := fields_fit c
  have hmagic : byteAt (pack c t w a d) 0 = widthMagic c := byteAt_pack_header c t w a d (by decide)
  have htarget : byteAt (pack c t w a d) 1 = BitVec.ofNat 8 t := byteAt_pack_header c t w a d (by decide)
  have hflags : byteAt (pack c t w a d) 2 = requestFlags w := byteAt_pack_header c t w a d (by decide)
  have haddr : a < 2 ^ 32 := ha.trans_le (Nat.pow_le_pow_right (by decide) (by omega))
  have hdata : d < 2 ^ 64 := hd.trans_le (Nat.pow_le_pow_right (by decide) (by omega))
  refine ⟨_, unpack_own hmagic, ?_, ?_, ?_, ?_, ?_, fun hc => ?_⟩
  · simp only [htarget, BitVec.toNat_ofNat, Nat.mod_eq_of_lt ht]
  · simp only [hflags, flagWrite_requestFlags]
  · simp only [address_pack, BitVec.toNat_ofNat, Nat.mod_eq_of_lt ha, Nat.mod_eq_of_lt haddr]
  · simp only [← dataField_eq_dataOf, data_pack, BitVec.toNat_ofNat, Nat.mod_eq_of_lt hd, Nat.mod_eq_of_lt hdata]
  · simp only [hflags, flagBit1_requestFlags]
  · simp only [(definesSuccess_iff c).mpr hc, hflags, flagBit1_requestFlags, if_true]

/-! The response handler ends with the verdict (R134, R222). -/

/-- `POST` rejects a value for `TAMER_GET` alone, and there the values above 2 (R234). -/
theorem post_error_iff (op : OpDesc) (d : BitVec 64) (r : Result) :
    (∃ v, post op d r = .error v) ↔ op.opc = Opc.tamerGet ∧ 2 < d.toNat := by
  unfold post
  by_cases htamer : op.opc = Opc.tamerGet
  · rcases Nat.lt_or_ge 2 d.toNat with hd | hd
    · simp [htamer, hd, Nat.not_le.mpr hd]
    · simp [htamer, hd]
  · simp only [htamer, if_false, false_and, iff_false]
    split_ifs <;> simp

/-- The status of an operation that `HANDLE_WC` ends: the verdict, but for the tamer mode check (R134, R234, R329). -/
def endStatus (opc : BitVec 8) (c : WidthClass) (B : Packet) : Status :=
  if opc = Opc.tamerGet ∧ verdict c B = .ok ∧ 2 < (dataOf c B).toNat then .unexpectedValue else verdict c B

theorem endStatus_of_verdict_ne {opc : BitVec 8} {c : WidthClass} {B : Packet} (h : verdict c B ≠ .ok) :
    endStatus opc c B = verdict c B :=
  if_neg fun ⟨_, hok, _⟩ => h hok

/-- Every way through `HANDLE_WC` ends the operation, with the status that magic, success bit and value give. -/
theorem handleWidth_ends (c : WidthClass) (B : Packet) (s : State) :
    (handleWidth c B s).dState = .idle ∧ (handleWidth c B s).res.valid = true ∧
      (handleWidth c B s).res.status = endStatus s.sOp.opc c B := by
  rcases handleWidth_cases c B s with ⟨hm, h⟩ | ⟨hm, ⟨hd, hf, h⟩ | ⟨hok, hpost⟩⟩
  · have hv : verdict c B = .framingError := verdict_foreign hm
    rw [h, endStatus_of_verdict_ne (by simp [hv]), hv]
    exact ⟨rfl, rfl, rfl⟩
  · have hv : verdict c B = .operationFailed := verdict_failed hm ⟨hd, hf⟩
    rw [h, endStatus_of_verdict_ne (by simp [hv]), hv]
    exact ⟨rfl, rfl, rfl⟩
  · have hv : verdict c B = .ok := verdict_ok hm hok
    rw [dataField_eq_dataOf] at hpost
    obtain ⟨v, hpost, h⟩ | ⟨r, hpost, h⟩ := hpost
    · obtain ⟨htamer, hbad⟩ := (post_error_iff ..).mp ⟨v, hpost⟩
      rw [h, endStatus, if_pos ⟨htamer, hv, hbad⟩]
      exact ⟨rfl, rfl, rfl⟩
    · have hgood : ¬(s.sOp.opc = Opc.tamerGet ∧ verdict c B = .ok ∧ 2 < (dataOf c B).toNat) := by
        rintro ⟨htamer, -, hbad⟩
        obtain ⟨v, herr⟩ := (post_error_iff ..).mpr ⟨htamer, hbad⟩
        exact nomatch hpost.symm.trans herr
      rw [h, endStatus, if_neg hgood, hv]
      exact ⟨rfl, rfl, rfl⟩

/-- Settles O6: the verdict is its table, and the receive step of a single-exchange operation is `HANDLE_WC`, which ends with
the verdict. -/
theorem verdictDecidesWidthOperations : Obligations.VerdictDecidesWidthOperations := by
  refine fun c B => ⟨?_, fun s hrecv hfam hagc hdrain => ?_⟩
  · simp only [verdict, definesSuccess_iff]
    rfl
  · have hhandle : takeResponse B s = handleWidth c B { s with dResp := B } := by
      rw [takeResponse_handle hdrain, handle_width (s := { s with dResp := B }) hagc hfam]
    refine ⟨_, receive_receiving hrecv B, ?_⟩
    rw [hhandle]
    exact handleWidth_ends c B { s with dResp := B }

end Sys2Proof.WidthCodecs
end

section
/-! The two retune requests, byte by byte (41_retune_codecs.md R170, R172): O11. -/

namespace Sys2Proof.RetuneCodecs

open Machine Laws Encoding

/-! The fields of a request. -/

/-- What `MemWrite` of a machine word leaves at each place: the word's bytes inside the field, the old bytes outside (R10). -/
theorem byteAt_memWrite_toNat {w : Nat} (B : Packet) (off n : Nat) (v : BitVec w) {j : Nat} (hj : j < 16) :
    byteAt (memWrite B off n v.toNat) j = if off ≤ j ∧ j < off + n then byteOf v (j - off) else byteAt B j := by
  split
  · next h =>
    obtain ⟨hfirst, hlast⟩ := h
    obtain ⟨k, rfl⟩ := Nat.exists_eq_add_of_le hfirst
    rw [byteAt_memWrite_inside n B off _ k (by omega) hj, ofNat_div_eq_byteOf, Nat.add_sub_cancel_left]
  · exact byteAt_memWrite_outside n B off _ j (by omega)

/-- The last byte of a byte string is its byte 0. -/
theorem byteOf_append_zero {w : Nat} (v : BitVec w) (b : Byte) : byteOf (v ++ b) 0 = b := by
  simp [byteOf, BitVec.extractLsb'_append_eq_of_add_le]

/-- Byte `k + 1` of a byte string is byte `k` of the string without its last byte. -/
theorem byteOf_append_succ {w : Nat} (v : BitVec w) (b : Byte) (k : Nat) : byteOf (v ++ b) (k + 1) = byteOf v k := by
  rw [byteOf, byteOf, BitVec.extractLsb'_append_eq_of_le (by omega), Nat.mul_succ, Nat.add_sub_cancel]

/-- A byte is its own byte 0. -/
theorem byteOf_byte (b : Byte) : byteOf b 0 = b := by
  simp [byteOf]

/-! The PLL tuning word, by bytes (R104). -/

/-- The word of the format, as a concatenation, is the word of R104, as a shift and an OR. -/
theorem pllWord_eq_tuningWord (nint : BitVec 16) (nfrac : BitVec 32) : pllWord nint nfrac = tuningWord nint nfrac := by
  apply BitVec.eq_of_getLsbD_eq
  intro i hi
  simp only [pllWord, tuningWord, BitVec.getLsbD_append, BitVec.getLsbD_extractLsb', BitVec.getLsbD_or, BitVec.getLsbD_and,
    BitVec.getLsbD_shiftLeft, BitVec.getLsbD_setWidth]
  interval_cases i <;> simp

theorem pllWord_eq_append (nint : BitVec 16) (nfrac : BitVec 32) :
    pllWord nint nfrac = pllByte9 nint ++ pllByte10 nint nfrac ++ pllByte11 nfrac ++ pllByte12 nfrac :=
  (pllWord_eq_tuningWord nint nfrac).trans (pllBytes_append nint nfrac).symm

section
variable (nint : BitVec 16) (nfrac : BitVec 32)

theorem byteOf_pllWord_zero : byteOf (pllWord nint nfrac) 0 = pllByte12 nfrac := by
  rw [pllWord_eq_append, byteOf_append_zero]

theorem byteOf_pllWord_one : byteOf (pllWord nint nfrac) 1 = pllByte11 nfrac := by
  rw [pllWord_eq_append, byteOf_append_succ, byteOf_append_zero]

theorem byteOf_pllWord_two : byteOf (pllWord nint nfrac) 2 = pllByte10 nint nfrac := by
  rw [pllWord_eq_append, byteOf_append_succ, byteOf_append_succ, byteOf_append_zero]

theorem byteOf_pllWord_three : byteOf (pllWord nint nfrac) 3 = pllByte9 nint := by
  rw [pllWord_eq_append, byteOf_append_succ, byteOf_append_succ, byteOf_append_succ, byteOf_byte]

end

/-! The packets are the formats (R98, R100). -/

/-- Byte by byte, the last write that covers a place is the byte the format has there. -/
theorem retunePacket_eq_layoutRetune (ts : BitVec 64) (nint : BitVec 16) (nfrac : BitVec 32) (freqselB bandselB xbGpio : Byte) :
    retunePacket ts nint nfrac freqselB bandselB xbGpio = layoutRetune ts (pllWord nint nfrac) freqselB bandselB xbGpio := by
  simp only [layoutRetune, byteOf_pllWord_zero, byteOf_pllWord_one, byteOf_pllWord_two, byteOf_pllWord_three]
  apply packet_ext
  intro i hi
  interval_cases i <;> simp [retunePacket, byteAt_memWrite_toNat] <;> rfl

theorem retune2Packet_eq_layoutRetune2 (ts : BitVec 64) (np : BitVec 16) (rffe portB spdt : Byte) :
    retune2Packet ts np rffe portB spdt = layoutRetune2 ts np rffe portB spdt := by
  apply packet_ext
  intro i hi
  interval_cases i <;> simp [retune2Packet, byteAt_memWrite_toNat] <;> rfl

/-! The channel's bits in the freqsel and port bytes, on the two channels (R105, R107). -/

theorem freqselByte_of_channel {chan : Byte} (h : chan = 0 ∨ chan = 1) (freqsel : Byte) :
    freqselByte freqsel chan = freqsel ||| (if chan = 0 then 0x40 else 0x80) := by
  rcases h with rfl | rfl
  · exact freqselByte_rx freqsel
  · exact freqselByte_tx freqsel

theorem portByte_of_channel {chan : Byte} (h : chan = 0 ∨ chan = 1) (port : Byte) :
    portByte port chan = (port &&& 0x7F) ||| (if port.getLsbD 7 = false ∧ chan = 0 then 0x80 else 0) := by
  have hrx : chan ≠ chanTx ↔ chan = 0 := by rcases h with rfl | rfl <;> decide
  simp only [portByte, hrx]

/-- Settles O11: the packets are the formats whatever the assembled bytes, and on the two channels these are the listed ones. -/
theorem retuneRequestsAreLaidOut : Obligations.RetuneRequestsAreLaidOut := by
  refine ⟨fun o hchan => ⟨?_, ?_⟩, by decide, by decide⟩
  · rw [packRetune, retunePacket_eq_layoutRetune, freqselByte_of_channel hchan, bandselByte]
  · rw [packRetune2, retune2Packet_eq_layoutRetune2, portByte_of_channel hchan]

end Sys2Proof.RetuneCodecs
end

section
/-! The retune replies and their verdicts (41_retune_codecs.md R171, R173, R174, R176): O12 and O13. -/

namespace Sys2Proof.RetuneCodecs

open Machine Laws

/-- The duration field of either reply (R99, R101). -/
theorem ofNat_memRead_duration (B : Packet) : BitVec.ofNat 64 (memRead B 1 8) = durationOf B := ofNat_memRead_eight B 1

/-! The two unpacks, case by case (R171, R173). -/

section
variable {B : Packet}

theorem unpackRetune_foreign (h : byteAt B 0 ≠ 0x54) : unpackRetune B = .error (byteAt B 0) := if_pos h

theorem unpackRetune_own (h : byteAt B 0 = 0x54) :
    unpackRetune B = .ok ⟨durationOf B, byteAt B 9, bit1 (byteAt B 10)⟩ := by
  rw [← ofNat_memRead_duration]
  exact if_neg (not_not_intro h)

theorem unpackRetune2_foreign (h : byteAt B 0 ≠ 0x55) : unpackRetune2 B = .error (byteAt B 0) := if_pos h

theorem unpackRetune2_own (h : byteAt B 0 = 0x55) : unpackRetune2 B = .ok ⟨durationOf B, 0, bit1 (byteAt B 9)⟩ := by
  rw [← ofNat_memRead_duration]
  exact if_neg (not_not_intro h)

end

/-- Settles O12: a foreign magic is the error, and with its own magic each unpack reads the listed bytes. -/
theorem retuneRepliesAreRead : Obligations.RetuneRepliesAreRead := by
  refine ⟨fun B => ⟨?_, ?_⟩, by decide, by decide⟩
  · split
    · next h => exact unpackRetune_foreign h
    · next h => exact unpackRetune_own (not_not.mp h)
  · split
    · next h => rw [unpackRetune2_foreign h]; rfl
    · next h => rw [unpackRetune2_own (not_not.mp h)]; rfl

/-! The interpreter, outcome by outcome (R174). -/

theorem interpretRetune_success (ts now : BitVec 64) : interpretRetune true ts now = .ok := rfl

theorem interpretRetune_sentinel (now : BitVec 64) : interpretRetune false now now = .tuneFailure := by
  simp [interpretRetune]

theorem interpretRetune_scheduled {ts now : BitVec 64} (h : ts ≠ now) : interpretRetune false ts now = .queueFull := by
  simp [interpretRetune, h]

/-- Settles O13: the interpreter's three outcomes; the verdicts are the model's own magic check with the interpreter behind it. -/
theorem retuneVerdictsInterpretTheSuccessBit : Obligations.RetuneVerdictsInterpretTheSuccessBit :=
  ⟨fun ts now => ⟨interpretRetune_success ts now, interpretRetune_sentinel now, interpretRetune_scheduled⟩,
    fun _ _ _ => ⟨rfl, rfl⟩⟩

end Sys2Proof.RetuneCodecs
end

section
/-! The send step, and the ends of the receive step that read no response (42_dispatcher.md R193, R194, R195, R201): O35, O36
and O38. -/

namespace Sys2Proof.Dispatcher

open Machine Laws Encoding

/-! The errors of the transport and of the response length, told by the states of Safety.lean. -/

/-- A transport error (R197, R198, R322). -/
theorem transportFailed_eq_failedState (e : BitVec 8) (s : State) :
    transportFailed e s = failedState .transportError (e.setWidth 64) { s with dLink := .unsync } :=
  raise_eq_failedState rfl _ _

/-- The info of a wrong length: bit 8 stands clear of the length byte, so `|` adds (R195). -/
theorem lengthInfo_eq_add (len : BitVec 8) : 0x100 ||| len.setWidth 64 = BitVec.ofNat 64 (256 + len.toNat) := by
  have hlen : len.toNat < 256 := len.isLt
  have hor : 256 ||| len.toNat = 256 + len.toNat := (Nat.two_pow_add_eq_or_of_lt (i := 8) hlen 1).symm
  apply BitVec.eq_of_toNat_eq
  rw [BitVec.toNat_or, BitVec.toNat_setWidth, BitVec.toNat_ofNat, Nat.mod_eq_of_lt (by omega : len.toNat < 2 ^ 64),
    Nat.mod_eq_of_lt (by omega : 256 + len.toNat < 2 ^ 64)]
  exact hor

/-- A response of a wrong length (R195, R323). -/
theorem lengthFailed_eq_failedState (len : BitVec 8) (s : State) :
    lengthFailed len s =
      failedState .framingError (BitVec.ofNat 64 (256 + len.toNat)) { s with dLink := .unsync } := by
  rw [← lengthInfo_eq_add]
  exact raise_eq_failedState rfl _ _

/-! The send step, by the outcome of `Send` (R193). -/

section
variable {s : State} {rest : List SendOutcome}

theorem sendStep_ok (h : s.env.sends = .ok :: rest) :
    sendStep s = { withSends rest (recorded (.sent s.cfg.cmdEp s.dReq .ok) s) with dState := .recv } := by
  rw [sendStep, h]
  rfl

theorem sendStep_terr {e : BitVec 8} (h : s.env.sends = .terr e :: rest) :
    sendStep s = failedState .transportError (e.setWidth 64)
      { withSends rest (recorded (.sent s.cfg.cmdEp s.dReq (.terr e)) s) with dLink := .unsync } := by
  rw [sendStep, h]
  exact transportFailed_eq_failedState ..

end

/-- Settles O35: in `D_SEND` the step is the send step, whatever packet stands in `d_req`. -/
theorem sendStepHandsOverTheRequest : Obligations.SendStepHandsOverTheRequest := by
  intro s rest hrun hsend
  rw [step_running hrun, enabledStep_send hsend]
  exact ⟨fun hok => congrArg _ (sendStep_ok hok), fun e hterr => congrArg _ (sendStep_terr hterr)⟩

/-! The step in `D_RECV`, by the outcome of `Recv` (R194, R195, R201). -/

section
variable {s : State} {rest : List RecvOutcome}

/-- What `Recv` returned is taken and recorded, and the receive step decides the rest. -/
theorem step_response {out : RecvOutcome} (hrun : running s) (hrecv : s.dState = .recv) (hin : s.env.recvs = out :: rest) :
    step s = .next (receiveStep out (withRecvs rest (recorded (.received s.cfg.respEp out) s))) := by
  rw [step_running hrun, enabledStep_response hrecv hin]

/-- Until the transport returns, the block waits as it is. -/
theorem step_recv_waits (hrun : running s) (hrecv : s.dState = .recv) (hin : s.env.recvs = []) : step s = .next s := by
  rw [step_running hrun, enabledStep_no_response hrecv hin]

/-- A transport error ends every operation, `DRAIN` among them (R197, R201). -/
theorem step_recv_terr {e : BitVec 8} (hrun : running s) (hrecv : s.dState = .recv) (hin : s.env.recvs = .terr e :: rest) :
    step s = .next (failedState .transportError (e.setWidth 64)
      { withRecvs rest (recorded (.received s.cfg.respEp (.terr e)) s) with dLink := .unsync }) := by
  rw [step_response hrun hrecv hin]
  exact congrArg _ (transportFailed_eq_failedState ..)

/-- A wrong length ends every operation but `DRAIN` (R195). -/
theorem step_recv_length {len : BitVec 8} {B : Packet} (hrun : running s) (hrecv : s.dState = .recv)
    (hin : s.env.recvs = .ok len B :: rest) (hop : s.sOp.opc ≠ Opc.drain) (hlen : len ≠ 16) :
    step s = .next (failedState .framingError (BitVec.ofNat 64 (256 + len.toNat))
      { withRecvs rest (recorded (.received s.cfg.respEp (.ok len B)) s) with dLink := .unsync }) := by
  have hwrong : len ≠ s.cfg.respLen := by rwa [hrun.1]
  have hstep := receiveStep_length (s := withRecvs rest (recorded (.received s.cfg.respEp (.ok len B)) s)) hop hwrong B
  rw [step_response hrun hrecv hin, hstep, lengthFailed_eq_failedState]

/-- Any delivery, of any length and content, ends a `DRAIN` (R201). -/
theorem step_recv_drain {len : BitVec 8} {B : Packet} (hrun : running s) (hrecv : s.dState = .recv)
    (hin : s.env.recvs = .ok len B :: rest) (hop : s.sOp.opc = Opc.drain) :
    step s = .next (endedState {}
      { withRecvs rest (recorded (.received s.cfg.respEp (.ok len B)) s) with dLink := .sync }) := by
  have hstep := receiveStep_drain (s := withRecvs rest (recorded (.received s.cfg.respEp (.ok len B)) s)) hop len B
  rw [step_response hrun hrecv hin, hstep]
  rfl

end

/-- Settles O36: neither a transport error nor a wrong length reaches a handler, so `d_resp` is not written. -/
theorem receiveStepEndsOnTransportAndLengthErrors : Obligations.ReceiveStepEndsOnTransportAndLengthErrors :=
  fun _ _ hrun hrecv =>
    ⟨fun _ hin => step_recv_terr hrun hrecv hin, fun _ _ hin hop hlen => step_recv_length hrun hrecv hin hop hlen⟩

/-! `DRAIN`: the accept step, then the receive step (R201). -/

/-- The accept step of `DRAIN` goes straight to `D_RECV`. -/
theorem step_accept_drain {s : State} {f : OpFields} {rest : List OpDesc} (hrun : running s) (hidle : s.dState = .idle)
    (hoffer : s.env.offers = ⟨Opc.drain, f⟩ :: rest) :
    step s = .next (acceptDrain ⟨Opc.drain, f⟩ (withOffers rest s)) := by
  rw [step_running hrun, enabledStep_offer hidle hoffer, acceptStep, if_pos rfl]

/-- A run of two steps. -/
theorem run_two {s t u : State} (hst : step s = .next t) (htu : step t = .next u) :
    Host.Core.run Sys2Proof.core 2 s = .next u := by
  rw [run_succ hst, run_succ htu]
  rfl

/-- Settles O38: the accept step leaves a running state in `D_RECV` with `DRAIN` in flight, where the second step waits, takes
the delivery, or ends on the transport's error. -/
theorem drainReceivesOneResponse : Obligations.DrainReceivesOneResponse := by
  intro s f rest rs hrun hidle hoffer s1
  have haccept : step s = .next s1 := step_accept_drain hrun hidle hoffer
  have hrun1 : running s1 := hrun
  refine ⟨fun hin => run_two haccept ?_, fun len B hin => run_two haccept ?_, fun e hin => run_two haccept ?_⟩
  · exact step_recv_waits hrun1 rfl hin
  · exact step_recv_drain hrun1 rfl hin rfl
  · exact step_recv_terr hrun1 rfl hin

end Sys2Proof.Dispatcher
end

section
/-! `DECODE` (43_target_map.md R221): O31. The request the machine builds for a descriptor is the one of the table, code by
code, and the accept step writes what the table's verdict says. -/

namespace Sys2Proof.TargetMap

open Machine Laws Encoding WidthCodecs RetuneCodecs

/-! The operation codes: the rows of the target map, and the others. -/

/-- The codes of R113 with a row of their own in `DECODE`: the generic accesses, the operations with a check or with fixed
operands, and `DRAIN`. -/
def unmappedCodes : List (BitVec 8) :=
  [0x10, 0x11, 0x12, 0x13, 0x14, 0x24, 0x25, 0x26, 0x27, 0x32, 0x33, 0x34, 0x40, 0x70, 0x71, 0x7F]

theorem operationCodes_cases {opc : BitVec 8} (h : opc ∈ operationCodes) :
    (∃ r ∈ targetMap, opc = r.opc) ∨ opc ∈ unmappedCodes := by
  revert opc
  decide

theorem mapRow_mem_operationCodes {r : MapRow} (hr : r ∈ targetMap) : r.opc ∈ operationCodes := by
  revert r
  decide

section
variable {cfg : Cfg} {opc : BitVec 8} {o : OpFields}

/-- A code outside R113 is INVALID in the machine. -/
theorem requestOf_unknown (h : opc ∉ operationCodes) : requestOf cfg ⟨opc, o⟩ = none := by
  unfold requestOf
  dsimp only
  split
  case h_48 => rfl
  all_goals exact absurd (by decide) h

/-- A code outside R113 is INVALID in the table. -/
theorem decodeSpec_unknown (h : opc ∉ operationCodes) : decodeSpec cfg ⟨opc, o⟩ = none := by
  have hfind : targetMap.find? (fun r => r.opc == opc) = none := by
    rw [List.find?_eq_none]
    intro r hr hopc
    exact h (eq_of_beq hopc ▸ mapRow_mem_operationCodes hr)
  unfold decodeSpec
  dsimp only
  rw [hfind]
  dsimp only
  split
  case h_16 => rfl
  all_goals exact absurd (by decide) h

end

/-! The unchecked requests. -/

/-- A generic request is the layout of its class, with data 0 in a read (R223 to R227). -/
theorem genericRequest_eq_layoutOf (c : WidthClass) (o : OpFields) :
    genericRequest c o =
      some (.width c, layoutOf c o.target (flagsOf o.write) o.addr (if o.write then o.data else 0)) := by
  have hdata : BitVec.ofNat 64 (if o.write then o.data.toNat else 0) = if o.write then o.data else 0 := by
    cases o.write <;> simp
  rw [genericRequest, pack_eq_layoutOf, hdata, BitVec.ofNat_toNat, BitVec.ofNat_toNat, BitVec.setWidth_eq, BitVec.setWidth_eq]

/-- The table at a row of the target map is the generic request with the row's target and write flag (R116). -/
theorem decodeSpec_mapRow {r : MapRow} (hr : r ∈ targetMap) (cfg : Cfg) (o : OpFields) :
    decodeSpec cfg ⟨r.opc, o⟩ = genericRequest r.cls (expansionFields r o) := by
  rw [genericRequest_eq_layoutOf]
  unfold targetMap at hr
  fin_cases hr <;> rfl

theorem decodeSpec_generic (cfg : Cfg) (c : WidthClass) (o : OpFields) :
    decodeSpec cfg ⟨genericOpc c, o⟩ = genericRequest c o := by
  rw [genericRequest_eq_layoutOf]
  cases c <;> rfl

/-! The argument checks: the machine's comparisons are the table's memberships. -/

theorem chanOk_iff_mem {chan : BitVec 8} : chanOk chan = true ↔ chan ∈ ([0, 1] : List (BitVec 8)) := by
  simp [chanOk, chanRx, chanTx]

theorem sel_lt_three_iff_mem {sel : BitVec 8} : sel.toNat < 3 ↔ sel ∈ ([0, 1, 2] : List (BitVec 8)) := by
  simp only [List.mem_cons, List.not_mem_nil, or_false]
  bv_omega

theorem sel_le_three_iff_mem {sel : BitVec 8} : sel.toNat ≤ 3 ↔ sel ∈ ([0, 1, 2, 3] : List (BitVec 8)) := by
  simp only [List.mem_cons, List.not_mem_nil, or_false]
  bv_omega

theorem data_le_two_iff_mem {data : BitVec 64} : data.toNat ≤ 2 ↔ data ∈ ([0, 1, 2] : List (BitVec 64)) := by
  simp only [List.mem_cons, List.not_mem_nil, or_false]
  bv_omega

/-! The checked requests and those with fixed operands, each against its row of the table. -/

/-- The 8x8 pack at a configured address is the format (R93). -/
theorem pack_8x8_at (t : Nat) (w : Bool) (addr : BitVec 8) (d : Nat) :
    pack .c8x8 t w addr.toNat d = layout8x8 (BitVec.ofNat 8 t) (flagsOf w) addr (BitVec.ofNat 8 d) := by
  obtain ⟨h8x8, -⟩ := packLaysOutEveryClass.1 t addr.toNat d w
  rw [h8x8, BitVec.ofNat_toNat, BitVec.setWidth_eq]

/-- The 8x16 pack at a selected address is the format (R94). -/
theorem pack_8x16_at (t : Nat) (w : Bool) (addr : BitVec 8) (d : Nat) :
    pack .c8x16 t w addr.toNat d = layout8x16 (BitVec.ofNat 8 t) (flagsOf w) addr (BitVec.ofNat 16 d) := by
  obtain ⟨-, h8x16, -⟩ := packLaysOutEveryClass.1 t addr.toNat d w
  rw [h8x16, BitVec.ofNat_toNat, BitVec.setWidth_eq]

/-- The data byte of an 8x8 write: what does not fit is dropped (R12). -/
theorem ofNat_toNat_eq_byteOf (v : BitVec 64) : BitVec.ofNat 8 v.toNat = byteOf v 0 := by
  simpa using ofNat_div_eq_byteOf 0 v

/-- The data field of an 8x16 write: what does not fit is dropped (R12). -/
theorem ofNat_toNat_eq_extractLsb' (v : BitVec 64) : BitVec.ofNat 16 v.toNat = v.extractLsb' 0 16 := by
  rw [← extractLsb'_ofNat (w := 64) _ (by decide), BitVec.ofNat_toNat, BitVec.setWidth_eq]

/-- The configured address of a trigger signal (R232). -/
theorem trigAddr_getElem (addrs : Vector (BitVec 8) 3) {sel : BitVec 8} (h : sel.toNat < 3) :
    addrs[sel.toNat] = if sel = 0 then addrs[0] else if sel = 1 then addrs[1] else addrs[2] := by
  have hsel := sel_lt_three_iff_mem.mp h
  simp only [List.mem_cons, List.not_mem_nil, or_false] at hsel
  rcases hsel with rfl | rfl | rfl <;> rfl

/-- The check of a trigger operation and its packet, for a read and a write alike (R232, R236, R237). -/
theorem trigRequest_eq_layout8x8 (cfg : Cfg) (write : Bool) (data : Nat) (o : OpFields) :
    trigRequest cfg write data o =
      if o.chan ∈ ([0, 1] : List (BitVec 8)) ∧ o.sel ∈ ([0, 1, 2] : List (BitVec 8)) then
        some (.width .c8x8, layout8x8 (if o.chan = 1 then 3 else 4) (flagsOf write)
          (if o.sel = 0 then cfg.trigAddr[0] else if o.sel = 1 then cfg.trigAddr[1] else cfg.trigAddr[2])
          (BitVec.ofNat 8 data))
      else none := by
  simp only [← chanOk_iff_mem, ← sel_lt_three_iff_mem]
  by_cases h : chanOk o.chan ∧ o.sel.toNat < 3
  · have htarget : BitVec.ofNat 8 (trigTarget o.chan) = if o.chan = 1 then 3 else 4 :=
      apply_ite (BitVec.ofNat 8) ..
    rw [trigRequest, dif_pos h, if_pos h, pack_8x8_at, htarget, trigAddr_getElem cfg.trigAddr h.2]
  · rw [trigRequest, dif_neg h, if_neg h]

section
variable (cfg : Cfg) (o : OpFields)

theorem tamerGetRequest_eq_decodeSpec : tamerGetRequest cfg = decodeSpec cfg ⟨Opc.tamerGet, o⟩ := by
  rw [tamerGetRequest, pack_8x8_at]
  rfl

theorem tamerSetRequest_eq_decodeSpec : tamerSetRequest cfg o = decodeSpec cfg ⟨Opc.tamerSet, o⟩ := by
  simp only [tamerSetRequest, data_le_two_iff_mem, pack_8x8_at, ofNat_toNat_eq_byteOf]
  rfl

theorem trigRead_eq_decodeSpec : trigRequest cfg false 0 o = decodeSpec cfg ⟨Opc.trigRead, o⟩ :=
  trigRequest_eq_layout8x8 ..

theorem trigWrite_eq_decodeSpec : trigRequest cfg true o.data.toNat o = decodeSpec cfg ⟨Opc.trigWrite, o⟩ := by
  rw [trigRequest_eq_layout8x8, ofNat_toNat_eq_byteOf]
  rfl

theorem iqcorrRead_eq_decodeSpec : iqRequest false 0 o = decodeSpec cfg ⟨Opc.iqcorrRead, o⟩ := by
  simp only [iqRequest, sel_le_three_iff_mem, pack_8x16_at]
  rfl

theorem iqcorrWrite_eq_decodeSpec : iqRequest true o.data.toNat o = decodeSpec cfg ⟨Opc.iqcorrWrite, o⟩ := by
  simp only [iqRequest, sel_le_three_iff_mem, pack_8x16_at, ofNat_toNat_eq_extractLsb']
  rfl

theorem agcDcWrite_eq_decodeSpec : some (.width .c8x16, agcRequest o 0) = decodeSpec cfg ⟨Opc.agcDcWrite, o⟩ := by
  obtain ⟨-, h8x16, -⟩ := packLaysOutEveryClass.1 2 0 o.agc[0].toNat true
  rw [BitVec.ofNat_toNat, BitVec.setWidth_eq] at h8x16
  exact congrArg (fun B => some (Family.width .c8x16, B)) h8x16

theorem fpgaVersionRead_eq_decodeSpec :
    some (.width .c8x32, pack .c8x32 0 false 0 0) = decodeSpec cfg ⟨Opc.fpgaVersionRead, o⟩ := by
  rw [pack_eq_layoutOf]
  rfl

theorem retuneRequest_eq_decodeSpec : retuneRequest o = decodeSpec cfg ⟨Opc.retune, o⟩ := by
  change _ = if o.chan ∈ ([0, 1] : List (BitVec 8)) then _ else _
  simp only [retuneRequest, chanOk_iff_mem]
  refine ite_congr rfl (fun hchan => ?_) fun _ => rfl
  rw [(retuneRequestsAreLaidOut.1 o (by simpa using hchan)).1]

theorem retune2Request_eq_decodeSpec : retune2Request o = decodeSpec cfg ⟨Opc.retune2, o⟩ := by
  change _ = if o.chan ∈ ([0, 1] : List (BitVec 8)) then _ else _
  simp only [retune2Request, chanOk_iff_mem]
  refine ite_congr rfl (fun hchan => ?_) fun _ => rfl
  rw [(retuneRequestsAreLaidOut.1 o (by simpa using hchan)).2]

end

/-- The machine's `DECODE` is the table's, for every descriptor (R221): a row of the target map, one of the other codes, or a
code that R113 does not have. -/
theorem requestOf_eq_decodeSpec (cfg : Cfg) (d : OpDesc) : requestOf cfg d = decodeSpec cfg d := by
  obtain ⟨opc, o⟩ := d
  by_cases hknown : opc ∈ operationCodes
  · rcases operationCodes_cases hknown with ⟨r, hr, rfl⟩ | hother
    · rw [requestOf_mapRow hr, decodeSpec_mapRow hr]
    · simp only [unmappedCodes, List.mem_cons, List.not_mem_nil, or_false] at hother
      rcases hother with rfl | rfl | rfl | rfl | rfl | rfl | rfl | rfl | rfl | rfl | rfl | rfl | rfl | rfl | rfl | rfl
      · exact (decodeSpec_generic cfg .c8x8 o).symm
      · exact (decodeSpec_generic cfg .c8x16 o).symm
      · exact (decodeSpec_generic cfg .c8x32 o).symm
      · exact (decodeSpec_generic cfg .c16x64 o).symm
      · exact (decodeSpec_generic cfg .c32x32 o).symm
      · exact tamerGetRequest_eq_decodeSpec cfg o
      · exact tamerSetRequest_eq_decodeSpec cfg o
      · exact trigRead_eq_decodeSpec cfg o
      · exact trigWrite_eq_decodeSpec cfg o
      · exact iqcorrRead_eq_decodeSpec cfg o
      · exact iqcorrWrite_eq_decodeSpec cfg o
      · exact agcDcWrite_eq_decodeSpec cfg o
      · exact fpgaVersionRead_eq_decodeSpec cfg o
      · exact retuneRequest_eq_decodeSpec cfg o
      · exact retune2Request_eq_decodeSpec cfg o
      · rfl
  · rw [requestOf_unknown hknown, decodeSpec_unknown hknown]

/-! The accept step, told by the states of Safety.lean. -/

/-- An accepted operation (R192, R301). -/
theorem acceptRequest_eq_acceptedAs (d : OpDesc) (fam : Family) (B : Packet) (s : State) :
    acceptRequest d fam B s = acceptedAs d fam B s := by
  rw [acceptRequest_eq, acceptedAs]
  by_cases h70 : d.opc = 0x70
  · rw [if_pos h70, h70]; rfl
  · by_cases h71 : d.opc = 0x71
    · rw [if_neg h70, if_pos h71, h71]; rfl
    · have hplain : isRetuneOpc d.opc = false := by simpa [isRetuneOpc, Opc.retune, Opc.retune2] using ⟨h70, h71⟩
      rw [if_neg h70, if_neg h71, hplain]; rfl

/-- A rejected operation (R192, R327). -/
theorem acceptInvalid_eq_rejectedState (d : OpDesc) (s : State) : acceptInvalid d s = rejectedState d s :=
  acceptInvalid_eq d s

/-- The accept step of every operation but `DRAIN` (R192, R221). -/
theorem acceptStep_eq_decodeSpec {d : OpDesc} (hdrain : d.opc ≠ Opc.drain) (s : State) :
    acceptStep d s =
      match decodeSpec s.cfg d with
      | some (fam, B) => acceptedAs d fam B s
      | none => rejectedState d s := by
  rw [acceptStep, if_neg hdrain, requestOf_eq_decodeSpec]
  cases decodeSpec s.cfg d with
  | none => exact acceptInvalid_eq_rejectedState d s
  | some p => exact acceptRequest_eq_acceptedAs d p.1 p.2 s

/-- Settles O31: the step is the accept step of the offer, whose verdict is the table's. -/
theorem acceptStepFollowsDecode : Obligations.AcceptStepFollowsDecode := by
  intro d rest s hrun hidle hoffer hdrain
  rw [step_running hrun, enabledStep_offer hidle hoffer, acceptStep_eq_decodeSpec hdrain]
  rfl

end Sys2Proof.TargetMap
end

section
/-! The receive step of a retune (44_retune_engine.md R303, 41_retune_codecs.md R174): O50. -/

namespace Sys2Proof.RetuneEngine

open Machine Laws Encoding RetuneCodecs

section
variable {s : State}

/-! Ending a retune with an error, told by the states of Safety.lean. -/

/-- A retune's code is no other operation's. -/
theorem ne_of_retuneOpc {opc other : BitVec 8} (hop : retuneOpc opc = true) (hother : retuneOpc other = false) :
    opc ≠ other := by
  rintro rfl
  exact nomatch hop.symm.trans hother

/-- An error that tells the retune's outcome keeps the `r_state` the handler has written (R303, R304). -/
theorem raise_known_eq_endedState {e : Status} (hop : retuneOpc s.sOp.opc = true) (he : leavesRetuneUnknown e = false)
    (info : BitVec 64) (r : Result) : raise e info r s = endedState { r with status := e, data := info } s := by
  rw [raise_known (.inr he), if_neg (ne_of_retuneOpc hop rfl)]
  rfl

/-- An error of R304 leaves a retune in `R_ERR`, with no index. -/
theorem failedState_eq_endedState (hop : retuneOpc s.sOp.opc = true) (e : Status) (info : BitVec 64) :
    failedState e info s = endedState { status := e, data := info } { s with rState := .err } := by
  rw [failedState, rStateAfterError, if_pos hop, if_neg (ne_of_retuneOpc hop rfl)]

/-! The three outcomes of a well-framed reply (R174, R303). -/

section
variable {dur : BitVec 64} {cap : Byte}

theorem settleRetune_success :
    settleRetune ⟨dur, cap, true⟩ s =
      endedState { duration := dur, vcocap := cap, flag1 := true } { s with rState := .done } := rfl

theorem settleRetune_sentinel (hop : retuneOpc s.sOp.opc = true) (hts : s.rTs = s.cfg.retuneNow) :
    settleRetune ⟨dur, cap, false⟩ s =
      endedState { status := .tuneFailure, data := s.rTs, vcocap := cap } { s with rState := .fail } := by
  have hverdict : interpretRetune false s.rTs s.cfg.retuneNow = .tuneFailure := by
    rw [hts, interpretRetune_sentinel]
  simp only [settleRetune, hverdict]
  exact raise_known_eq_endedState (s := { s with rState := .fail }) hop rfl _ _

theorem settleRetune_scheduled (hop : retuneOpc s.sOp.opc = true) (hts : s.rTs ≠ s.cfg.retuneNow) :
    settleRetune ⟨dur, cap, false⟩ s =
      endedState { status := .queueFull, data := s.rTs, vcocap := cap } { s with rState := .qfull } := by
  simp only [settleRetune, interpretRetune_scheduled hts]
  exact raise_known_eq_endedState (s := { s with rState := .qfull }) hop rfl _ _

/-- The outcome by the success bit and, where it is clear, by the timestamp the retune asked for. -/
theorem settleRetune_eq (hop : retuneOpc s.sOp.opc = true) (success : Bool) :
    settleRetune ⟨dur, cap, success⟩ s =
      if success = true then
        endedState { duration := dur, vcocap := cap, flag1 := true } { s with rState := .done }
      else if s.rTs = s.cfg.retuneNow then
        endedState { status := .tuneFailure, data := s.rTs, vcocap := cap } { s with rState := .fail }
      else
        endedState { status := .queueFull, data := s.rTs, vcocap := cap } { s with rState := .qfull } := by
  cases success with
  | true => rw [if_pos rfl, settleRetune_success]
  | false =>
    rw [if_neg Bool.false_ne_true]
    split
    · next hts => exact settleRetune_sentinel hop hts
    · next hts => exact settleRetune_scheduled hop hts

end

/-! The receive step with a retune in flight (R194). -/

section
variable (hrecv : s.dState = .recv) (hop : retuneOpc s.sOp.opc = true)
include hrecv hop

theorem receive_eq_handle (B : Packet) : receive B s = .next (handle B { s with dResp := B }) := by
  rw [receive_receiving hrecv, takeResponse_handle (ne_of_retuneOpc hop rfl)]

theorem receive_retune_own {B : Packet} (hfam : s.sFam = .retune) (hm : byteAt B 0 = 0x54) :
    receive B s = .next (settleRetune ⟨durationOf B, byteAt B 9, bit1 (byteAt B 10)⟩ { s with dResp := B }) := by
  have hhandle := handle_retune (s := { s with dResp := B }) (ne_of_retuneOpc hop rfl) hfam B
  rw [receive_eq_handle hrecv hop, hhandle, unpackRetune_own hm]
  rfl

theorem receive_retune2_own {B : Packet} (hfam : s.sFam = .retune2) (hm : byteAt B 0 = 0x55) :
    receive B s = .next (settleRetune ⟨durationOf B, 0, bit1 (byteAt B 9)⟩ { s with dResp := B }) := by
  have hhandle := handle_retune2 (s := { s with dResp := B }) (ne_of_retuneOpc hop rfl) hfam B
  rw [receive_eq_handle hrecv hop, hhandle, unpackRetune2_own hm]
  rfl

/-- A magic that is not the one of the retune family in flight (R109, R303). -/
theorem receive_retune_foreign {B : Packet} (hm : byteAt B 0 ≠ familyMagic s.sFam) :
    receive B s = .next (endedState { status := .framingError, data := (byteAt B 0).setWidth 64 }
      { s with dResp := B, rState := .err }) := by
  have hfits : FamilyFitsOp { s with dResp := B } :=
    ⟨fun hagc => absurd hagc (ne_of_retuneOpc hop rfl), fun _ => hop⟩
  rw [receive_eq_handle hrecv hop, handle_foreign hfits hm,
    failedState_eq_endedState (s := { s with dResp := B }) hop]

end

end

/-- Settles O50: the family in flight picks the codec, whose reply is settled by its three outcomes, and the magic of either
family is checked before. -/
theorem retuneResponsesSettleTheRetune : Obligations.RetuneResponsesSettleTheRetune := by
  intro b s hrecv settled
  refine ⟨fun hfam hopc => ?_, fun hfam hopc => ?_, fun B hforeign => ?_⟩
  · have hop : retuneOpc s.sOp.opc = true := by rw [hopc]; rfl
    rw [exec_of_response (B := frame 0x54 b) rfl, receive_retune_own hrecv hop hfam rfl]
    exact congrArg _ (settleRetune_eq (s := { s with dResp := frame 0x54 b }) hop _)
  · have hop : retuneOpc s.sOp.opc = true := by rw [hopc]; rfl
    rw [exec_of_response (B := frame 0x55 b) rfl, receive_retune2_own hrecv hop hfam rfl]
    exact congrArg _ (settleRetune_eq (s := { s with dResp := frame 0x55 b }) hop _)
  · rcases hforeign with ⟨hfam, hopc, hm⟩ | ⟨hfam, hopc, hm⟩ <;>
      exact receive_retune_foreign hrecv (by rw [hopc]; rfl) (by rw [hfam]; exact hm)

end Sys2Proof.RetuneEngine
end

section
/-! Reset and the configuration registers (70_reset_and_hazards.md R350 to R352): O39 and O53. -/

namespace Sys2Proof.ResetAndHazards

open Machine Laws Encoding

/-! The step with the reset input asserted (R350). -/

section
variable {s : State} {rest : List Bool}

/-- Reset comes before the step that `d_state` enables, whatever that step is. -/
theorem nextState_reset (hreset : s.env.resetIn = true :: rest) : nextState s = resetStep (withResets rest s) := by
  rw [nextState, hreset]

theorem step_reset (hlen : s.cfg.respLen = 16) (hreset : s.env.resetIn = true :: rest) :
    step s = .next (resetStep (withResets rest s)) := by
  rw [step_of_respLen hlen, nextState_reset hreset]

theorem opReady_resetStep : opReady (resetStep s) = true := by
  rw [opReady, resetStep_dState]
  rfl

theorem resetStep_res_valid : (resetStep s).res.valid = false := by rw [resetStep_res]

end

/-- Settles O39: the step is `resetStep`, which writes each register of the table as it is listed there. -/
theorem resetStepClearsTheBlock : Obligations.ResetStepClearsTheBlock := by
  intro s rest hlen hreset
  have htaken : step s = .next (resetStep (withResets rest s)) := step_reset hlen hreset
  have hfam : familyCode (resetStep (withResets rest s)).sFam = 0 := by
    rw [resetStep_sFam]
    rfl
  exact ⟨_, htaken, rfl, hfam, opReady_resetStep, resetStep_res_valid⟩

/-! What a step that answers a state answers (R26, R205). -/

theorem step_next_iff {s t : State} : step s = .next t ↔ s.cfg.respLen = 16 ∧ nextState s = t := by
  rw [step_eq]
  by_cases hlen : s.cfg.respLen = 16
  · rw [if_pos hlen, Host.Outcome.next.injEq]
    exact ⟨fun h => ⟨hlen, h⟩, fun h => h.2⟩
  · rw [if_neg hlen]
    exact ⟨fun h => (nomatch h), fun h => absurd h.1 hlen⟩

/-- Settles O53: a step that is not refused answers `nextState`, which writes no configuration register. -/
theorem configurationIsNeverWritten : Obligations.ConfigurationIsNeverWritten := by
  refine ⟨rfl, fun s t hstep => ?_⟩
  obtain ⟨_, rfl⟩ := step_next_iff.mp hstep
  exact nextState_cfg s

end Sys2Proof.ResetAndHazards
end

section
/-! The request rows by width class, and the packets' bytes read back (30_encoding.md R92 to R104): O14. -/

namespace Sys2Proof.Encoding

open Machine Laws WidthCodecs RetuneCodecs

/-! The ten width-class request rows as one function of the class (R92 to R97). -/

/-- The request row of a class, its operands at the widths of the class's fields. -/
def widthRequest (c : WidthClass) (write : Bool) (t : Byte) (a : BitVec (8 * addrWidth c)) (d : BitVec (8 * dataWidth c)) :
    Instr :=
  match c, write with
  | .c8x8, false => .req8x8Rd t a d
  | .c8x8, true => .req8x8Wr t a d
  | .c8x16, false => .req8x16Rd t a d
  | .c8x16, true => .req8x16Wr t a d
  | .c8x32, false => .req8x32Rd t a d
  | .c8x32, true => .req8x32Wr t a d
  | .c16x64, false => .req16x64Rd t a d
  | .c16x64, true => .req16x64Wr t a d
  | .c32x32, false => .req32x32Rd t a d
  | .c32x32, true => .req32x32Wr t a d

theorem encode_widthRequest (c : WidthClass) (w : Bool) (t : Byte) (a : BitVec (8 * addrWidth c))
    (d : BitVec (8 * dataWidth c)) :
    encode (widthRequest c w t a d) = .request (pack c t.toNat w a.toNat d.toNat) := by
  cases c <;> cases w <;> rfl

/-- The request a packet of a class is: write bit, target, address and data from their own fields (R108). -/
theorem decodeRequest_width {c : WidthClass} {B : Packet} (h : byteAt B 0 = widthMagic c) :
    decodeRequest B = .ok (widthRequest c (flagWrite (byteAt B 2)) (byteAt B 1) (addrField c _ B) (dataField c _ B)) := by
  cases c with
  | c8x8 => rw [decodeRequest_8x8 h]; cases flagWrite (byteAt B 2) <;> rfl
  | c8x16 => rw [decodeRequest_8x16 h]; cases flagWrite (byteAt B 2) <;> rfl
  | c8x32 => rw [decodeRequest_8x32 h]; cases flagWrite (byteAt B 2) <;> rfl
  | c16x64 => rw [decodeRequest_16x64 h]; cases flagWrite (byteAt B 2) <;> rfl
  | c32x32 => rw [decodeRequest_32x32 h]; cases flagWrite (byteAt B 2) <;> rfl

section
variable (c : WidthClass) (w : Bool) (t : Byte) (a : BitVec (8 * addrWidth c)) (d : BitVec (8 * dataWidth c))

theorem addrField_pack : addrField c _ (pack c t.toNat w a.toNat d.toNat) = a := by
  rw [addrField, address_pack, Nat.mod_eq_of_lt a.isLt, BitVec.ofNat_toNat, BitVec.setWidth_eq]

theorem dataField_pack : dataField c _ (pack c t.toNat w a.toNat d.toNat) = d := by
  rw [dataField, data_pack, Nat.mod_eq_of_lt d.isLt, BitVec.ofNat_toNat, BitVec.setWidth_eq]

/-- The packet of a width-class request row is read back as the row, for every class at once. -/
theorem decode_encode_widthRequest : decode (encode (widthRequest c w t a d)) = .ok (widthRequest c w t a d) := by
  have hmagic : byteAt (pack c t.toNat w a.toNat d.toNat) 0 = widthMagic c := byteAt_pack_header _ _ _ _ _ (by decide)
  have htarget : byteAt (pack c t.toNat w a.toNat d.toNat) 1 = BitVec.ofNat 8 t.toNat :=
    byteAt_pack_header _ _ _ _ _ (by decide)
  have hflags : byteAt (pack c t.toNat w a.toNat d.toNat) 2 = requestFlags w := byteAt_pack_header _ _ _ _ _ (by decide)
  rw [encode_widthRequest, decode, decodeRequest_width hmagic, addrField_pack, dataField_pack, htarget, hflags,
    flagWrite_requestFlags, BitVec.ofNat_toNat, BitVec.setWidth_eq]

end

/-! The fields of the two retune requests (R98, R100, R104). -/

/-- The `nint` operand by its bits: byte 9 and the top bit of byte 10 (R104). -/
theorem nintField_eq_append (B : Packet) : nintField B = byteAt B 9 ++ (byteAt B 10).extractLsb' 7 1 := by
  apply BitVec.eq_of_toNat_eq
  have h10 := (byteAt B 10).isLt
  have h9 := (byteAt B 9).isLt
  rw [nintField, BitVec.toNat_ofNat, BitVec.toNat_append, BitVec.extractLsb'_toNat, Nat.shiftRight_eq_div_pow,
    ← Nat.shiftLeft_add_eq_or_of_lt (Nat.mod_lt _ (by decide)), Nat.shiftLeft_eq]
  omega

/-- The `nfrac` operand by its bits: the low seven bits of byte 10, then bytes 11 and 12 (R104). -/
theorem nfracField_eq_append (B : Packet) :
    nfracField B = (byteAt B 10).extractLsb' 0 7 ++ byteAt B 11 ++ byteAt B 12 := by
  apply BitVec.eq_of_toNat_eq
  have h11 := (byteAt B 11).isLt
  have h12 := (byteAt B 12).isLt
  rw [nfracField, BitVec.toNat_ofNat, toNat_append_byte, toNat_append_byte, BitVec.extractLsb'_toNat, Nat.shiftRight_zero]
  omega

/-- A 64-bit value is its eight bytes. -/
theorem append_byteOf_64 (v : BitVec 64) :
    byteOf v 7 ++ byteOf v 6 ++ byteOf v 5 ++ byteOf v 4 ++ byteOf v 3 ++ byteOf v 2 ++ byteOf v 1 ++ byteOf v 0 = v := by
  apply BitVec.eq_of_getLsbD_eq
  intro i hi
  simp only [byteOf, BitVec.getLsbD_append, BitVec.getLsbD_extractLsb']
  interval_cases i <;> simp

/-- A 16-bit value is its two bytes. -/
theorem append_byteOf_16 (v : BitVec 16) : byteOf v 1 ++ byteOf v 0 = v := by
  apply BitVec.eq_of_getLsbD_eq
  intro i hi
  simp only [byteOf, BitVec.getLsbD_append, BitVec.getLsbD_extractLsb']
  interval_cases i <;> simp

/-- A zero-extended value's low bits are the value. -/
theorem extractLsb'_setWidth {n w : Nat} (v : BitVec n) (h : n ≤ w) : (v.setWidth w).extractLsb' 0 n = v := by
  rw [← BitVec.ofNat_toNat, extractLsb'_ofNat _ h, BitVec.ofNat_toNat, BitVec.setWidth_eq]

/-- The tuning word of a request row's operands is the two of them side by side. -/
theorem pllWord_setWidth (ni : BitVec 9) (nf : BitVec 23) : pllWord (ni.setWidth 16) (nf.setWidth 32) = ni ++ nf := by
  rw [pllWord, extractLsb'_setWidth ni (by decide), extractLsb'_setWidth nf (by decide)]

theorem append_byteOf_nint (ni : BitVec 9) (nf : BitVec 23) :
    byteOf (ni ++ nf) 3 ++ (byteOf (ni ++ nf) 2).extractLsb' 7 1 = ni := by
  apply BitVec.eq_of_getLsbD_eq
  intro i hi
  simp only [byteOf, BitVec.getLsbD_append, BitVec.getLsbD_extractLsb']
  interval_cases i <;> simp

theorem append_byteOf_nfrac (ni : BitVec 9) (nf : BitVec 23) :
    (byteOf (ni ++ nf) 2).extractLsb' 0 7 ++ byteOf (ni ++ nf) 1 ++ byteOf (ni ++ nf) 0 = nf := by
  apply BitVec.eq_of_getLsbD_eq
  intro i hi
  simp only [byteOf, BitVec.getLsbD_append, BitVec.getLsbD_extractLsb']
  interval_cases i <;> simp

theorem encode_reqRetune (ts : BitVec 64) (ni : BitVec 9) (nf : BitVec 23) (fb bb xb : Byte) :
    encode (.reqRetune ts ni nf fb bb xb) = .request (layoutRetune ts (ni ++ nf) fb bb xb) := by
  rw [encode, retunePacket_eq_layoutRetune, pllWord_setWidth]

theorem encode_reqRetune2 (ts : BitVec 64) (np : BitVec 16) (rp pb sp : Byte) :
    encode (.reqRetune2 ts np rp pb sp) = .request (layoutRetune2 ts np rp pb sp) := by
  rw [encode, retune2Packet_eq_layoutRetune2]

theorem decode_encode_reqRetune (ts : BitVec 64) (ni : BitVec 9) (nf : BitVec 23) (fb bb xb : Byte) :
    decode (encode (.reqRetune ts ni nf fb bb xb)) = .ok (.reqRetune ts ni nf fb bb xb) := by
  have hts : durationOf (layoutRetune ts (ni ++ nf) fb bb xb) = ts := append_byteOf_64 ts
  have hni : nintField (layoutRetune ts (ni ++ nf) fb bb xb) = ni :=
    (nintField_eq_append _).trans (append_byteOf_nint ni nf)
  have hnf : nfracField (layoutRetune ts (ni ++ nf) fb bb xb) = nf :=
    (nfracField_eq_append _).trans (append_byteOf_nfrac ni nf)
  rw [encode_reqRetune, decode, decodeRequest_retune rfl, ofNat_memRead_duration, hts, hni, hnf]
  rfl

theorem decode_encode_reqRetune2 (ts : BitVec 64) (np : BitVec 16) (rp pb sp : Byte) :
    decode (encode (.reqRetune2 ts np rp pb sp)) = .ok (.reqRetune2 ts np rp pb sp) := by
  have hts : durationOf (layoutRetune2 ts np rp pb sp) = ts := append_byteOf_64 ts
  have hnp : BitVec.ofNat 16 (memRead (layoutRetune2 ts np rp pb sp) 9 2) = np :=
    (ofNat_memRead_two _ 9).trans (append_byteOf_16 np)
  rw [encode_reqRetune2, decode, decodeRequest_retune2 rfl, ofNat_memRead_duration, hts, hnp]
  rfl

/-! The response and operation rows. -/

/-- A buffer with the magic of a family is that family's response row (R108). -/
theorem decodeResponse_frame {i : Instr} {B : Packet} (h : encode i = .response B) : decodeResponse B = .ok i := by
  cases i <;> simp only [encode, Image.response.injEq, reduceCtorEq] at h <;> subst h
  case rsp8x8 b => rw [decodeResponse_8x8 rfl, bodyOf_frame]
  case rsp8x16 b => rw [decodeResponse_8x16 rfl, bodyOf_frame]
  case rsp8x32 b => rw [decodeResponse_8x32 rfl, bodyOf_frame]
  case rsp16x64 b => rw [decodeResponse_16x64 rfl, bodyOf_frame]
  case rsp32x32 b => rw [decodeResponse_32x32 rfl, bodyOf_frame]
  case rspRetune b => rw [decodeResponse_retune rfl, bodyOf_frame]
  case rspRetune2 b => rw [decodeResponse_retune2 rfl, bodyOf_frame]

theorem decodeTrig_tx {o : OpFields} (h : o.chan = chanTx) (tx rx : OpFields → Instr) :
    decodeTrig o tx rx = .ok (tx o) := if_pos h

theorem decodeTrig_rx {o : OpFields} (h : o.chan = chanRx) (tx rx : OpFields → Instr) :
    decodeTrig o tx rx = .ok (rx o) := by
  have htx : o.chan ≠ chanTx := by rw [h]; decide
  rw [decodeTrig, if_neg htx, if_pos h]

/-- A descriptor's code is one row's, but for the trigger codes, whose rows the channel tells apart (R113, R114). -/
theorem decodeOp_of_encode {i : Instr} {d : OpDesc} (hwf : i.wellFormed = true) (h : encode i = .op d) :
    decodeOp d = .ok i := by
  cases i <;> simp only [encode, Image.op.injEq, reduceCtorEq] at h <;> subst h
  case trigReadTx o => exact decodeTrig_tx (eq_of_beq hwf) ..
  case trigReadRx o => exact decodeTrig_rx (eq_of_beq hwf) ..
  case trigWriteTx o => exact decodeTrig_tx (eq_of_beq hwf) ..
  case trigWriteRx o => exact decodeTrig_rx (eq_of_beq hwf) ..
  all_goals rfl

/-- A request row is a width-class row or one of the two retune rows. -/
theorem request_cases {i : Instr} {B : Packet} (h : encode i = .request B) :
    (∃ c w t a d, i = widthRequest c w t a d) ∨ (∃ ts ni nf fb bb xb, i = .reqRetune ts ni nf fb bb xb) ∨
      ∃ ts np rp pb sp, i = .reqRetune2 ts np rp pb sp := by
  cases i <;> simp only [encode, reduceCtorEq] at h
  case req8x8Rd t a d => exact .inl ⟨.c8x8, false, t, a, d, rfl⟩
  case req8x8Wr t a d => exact .inl ⟨.c8x8, true, t, a, d, rfl⟩
  case req8x16Rd t a d => exact .inl ⟨.c8x16, false, t, a, d, rfl⟩
  case req8x16Wr t a d => exact .inl ⟨.c8x16, true, t, a, d, rfl⟩
  case req8x32Rd t a d => exact .inl ⟨.c8x32, false, t, a, d, rfl⟩
  case req8x32Wr t a d => exact .inl ⟨.c8x32, true, t, a, d, rfl⟩
  case req16x64Rd t a d => exact .inl ⟨.c16x64, false, t, a, d, rfl⟩
  case req16x64Wr t a d => exact .inl ⟨.c16x64, true, t, a, d, rfl⟩
  case req32x32Rd t a d => exact .inl ⟨.c32x32, false, t, a, d, rfl⟩
  case req32x32Wr t a d => exact .inl ⟨.c32x32, true, t, a, d, rfl⟩
  case reqRetune => exact .inr (.inl ⟨_, _, _, _, _, _, rfl⟩)
  case reqRetune2 => exact .inr (.inr ⟨_, _, _, _, _, rfl⟩)

/-- Every request row is read back from its packet. -/
theorem decodeRequest_of_encode {i : Instr} {B : Packet} (h : encode i = .request B) : decodeRequest B = .ok i := by
  change decode (.request B) = .ok i
  rw [← h]
  rcases request_cases h with ⟨c, w, t, a, d, rfl⟩ | ⟨ts, ni, nf, fb, bb, xb, rfl⟩ | ⟨ts, np, rp, pb, sp, rfl⟩
  · exact decode_encode_widthRequest c w t a d
  · exact decode_encode_reqRetune ts ni nf fb bb xb
  · exact decode_encode_reqRetune2 ts np rp pb sp

/-- Settles O14: an image is a descriptor, a request or a response, and each of the three decoders reads its rows back. -/
theorem decodeOfEncodeIsTheInstruction : Obligations.DecodeOfEncodeIsTheInstruction := by
  intro i hwf
  cases himage : encode i with
  | op d => exact decodeOp_of_encode hwf himage
  | request B => exact decodeRequest_of_encode himage
  | response B => exact decodeResponse_frame himage

end Sys2Proof.Encoding
end

section
/-! What each decoder refuses, and the operands it reads (30_encoding.md R104, R108 to R113): O15, O16 and O18. -/

namespace Sys2Proof.Encoding

open Machine Laws WidthCodecs RetuneCodecs TargetMap

/-! The magic tags are those of the seven families (R91). -/

theorem exists_family_of_mem_magicTags {m : Byte} (h : m ∈ magicTags) : ∃ f, m = familyMagic f := by
  simp only [magicTags, List.mem_cons, List.not_mem_nil, or_false] at h
  rcases h with rfl | rfl | rfl | rfl | rfl | rfl | rfl
  · exact ⟨.width .c8x8, rfl⟩
  · exact ⟨.width .c8x16, rfl⟩
  · exact ⟨.width .c8x32, rfl⟩
  · exact ⟨.width .c16x64, rfl⟩
  · exact ⟨.width .c32x32, rfl⟩
  · exact ⟨.retune, rfl⟩
  · exact ⟨.retune2, rfl⟩

/-! Responses. -/

/-- The response row of a family (R114). -/
def responseRow : Family → Body → Instr
  | .width .c8x8 => .rsp8x8
  | .width .c8x16 => .rsp8x16
  | .width .c8x32 => .rsp8x32
  | .width .c16x64 => .rsp16x64
  | .width .c32x32 => .rsp32x32
  | .retune => .rspRetune
  | .retune2 => .rspRetune2

theorem encode_responseRow (f : Family) (b : Body) : encode (responseRow f b) = .response (frame (familyMagic f) b) := by
  cases f with
  | width c => cases c <;> rfl
  | retune => rfl
  | retune2 => rfl

theorem decodeResponse_family {f : Family} {B : Packet} (h : byteAt B 0 = familyMagic f) :
    decodeResponse B = .ok (responseRow f (bodyOf B)) := by
  have himage : encode (responseRow f (bodyOf B)) = .response B := by
    rw [encode_responseRow, ← h, frame_bodyOf]
  exact decodeResponse_frame himage

theorem decodeResponse_error_iff (B : Packet) : (∃ e, decodeResponse B = .error e) ↔ byteAt B 0 ∉ magicTags := by
  refine ⟨fun ⟨e, he⟩ hmem => ?_, fun h => ⟨_, decodeResponse_foreign h⟩⟩
  obtain ⟨f, hf⟩ := exists_family_of_mem_magicTags hmem
  rw [decodeResponse_family hf] at he
  cases he

/-! Descriptors. -/

theorem decodeTrig_ok {o : OpFields} {tx rx : OpFields → Instr} {i : Instr} (h : decodeTrig o tx rx = .ok i) :
    (o.chan = chanTx ∧ i = tx o) ∨ (o.chan = chanRx ∧ i = rx o) := by
  unfold decodeTrig at h
  split at h
  · next hc => cases h; exact .inl ⟨hc, rfl⟩
  · split at h
    · next hc => cases h; exact .inr ⟨hc, rfl⟩
    · cases h

theorem decodeTrig_error_iff (o : OpFields) (tx rx : OpFields → Instr) :
    (∃ e, decodeTrig o tx rx = .error e) ↔ o.chan ∉ ([0, 1] : List (BitVec 8)) := by
  rw [← chanOk_iff_mem, Bool.not_eq_true]
  refine ⟨fun ⟨e, he⟩ => ?_, fun hc => ?_⟩
  · rcases decodeTrig_cases o tx rx with h | h | ⟨-, h⟩
    · rw [h] at he; cases he
    · rw [h] at he; cases he
    · exact h
  · have htx : o.chan ≠ chanTx := fun h => by rw [h] at hc; cases hc
    have hrx : o.chan ≠ chanRx := fun h => by rw [h] at hc; cases hc
    exact ⟨_, by rw [decodeTrig, if_neg htx, if_neg hrx]⟩

/-- What a descriptor decodes to is well formed: a trigger row is chosen by the channel it stands for (R114, R232). -/
theorem wellFormed_of_decodeOp {d : OpDesc} {i : Instr} (h : decodeOp d = .ok i) : i.wellFormed = true := by
  obtain ⟨opc, o⟩ := d
  unfold decodeOp at h
  split at h
  case h_12 => rcases decodeTrig_ok h with ⟨hc, rfl⟩ | ⟨hc, rfl⟩ <;> exact beq_of_eq hc
  case h_13 => rcases decodeTrig_ok h with ⟨hc, rfl⟩ | ⟨hc, rfl⟩ <;> exact beq_of_eq hc
  case h_49 => cases h
  all_goals (cases h; rfl)

/-- The trigger codes, the only ones of R113 that the channel can refuse (R232). -/
def trigCodes : List (BitVec 8) := [0x26, 0x27]

/-- A code outside R113 names no operation (R113, R221). -/
theorem decodeOp_unknown {d : OpDesc} (h : d.opc ∉ operationCodes) : decodeOp d = .error (.unknownOpcode d.opc) := by
  obtain ⟨opc, o⟩ := d
  unfold decodeOp
  dsimp only at h ⊢
  split
  case h_49 => rfl
  all_goals exact absurd (by decide) h

/-- A code of R113 that is no trigger's names its operation whatever the fields. -/
theorem decodeOp_known {d : OpDesc} (h : d.opc ∈ operationCodes) (htrig : d.opc ∉ trigCodes) :
    ∃ i, decodeOp d = .ok i := by
  obtain ⟨opc, o⟩ := d
  unfold decodeOp
  dsimp only at h htrig ⊢
  split
  case h_12 => exact absurd (by decide) htrig
  case h_13 => exact absurd (by decide) htrig
  case h_49 => simp_all [operationCodes]
  all_goals exact ⟨_, rfl⟩

/-- A trigger code names an operation where the channel is RX or TX. -/
theorem decodeOp_trig_error_iff {d : OpDesc} (h : d.opc ∈ trigCodes) :
    (∃ e, decodeOp d = .error e) ↔ d.fields.chan ∉ ([0, 1] : List (BitVec 8)) := by
  obtain ⟨opc, o⟩ := d
  simp only [trigCodes, List.mem_cons, List.not_mem_nil, or_false] at h
  rcases h with rfl | rfl <;> exact decodeTrig_error_iff ..

theorem trigCodes_subset_operationCodes {opc : BitVec 8} (h : opc ∈ trigCodes) : opc ∈ operationCodes := by
  revert opc
  decide

theorem decodeOp_error_iff (d : OpDesc) :
    (∃ e, decodeOp d = .error e) ↔
      d.opc ∉ operationCodes ∨ (d.opc ∈ trigCodes ∧ d.fields.chan ∉ ([0, 1] : List (BitVec 8))) := by
  by_cases htrig : d.opc ∈ trigCodes
  · simp only [decodeOp_trig_error_iff htrig, htrig, trigCodes_subset_operationCodes htrig, not_true, false_or, true_and]
  · simp only [htrig, false_and, or_false]
    refine ⟨fun ⟨e, he⟩ hknown => ?_, fun h => ⟨_, decodeOp_unknown h⟩⟩
    obtain ⟨i, hi⟩ := decodeOp_known hknown htrig
    exact nomatch hi.symm.trans he

/-- Settles O15: the image of what was read is what was read, and the refusals are those of the two tables. -/
theorem decodedImagesEncodeBack : Obligations.DecodedImagesEncodeBack :=
  ⟨fun _ _ h => encode_of_decodeResponse h, decodeResponse_error_iff,
    fun _ _ h => ⟨encode_of_decodeOp h, wellFormed_of_decodeOp h⟩, decodeOp_error_iff⟩

/-! Requests. -/

/-- Every packet with a magic tag is a request, whatever its other bits; and the row it is read as has a packet with that
magic. -/
theorem decodeRequest_family {f : Family} {B : Packet} (h : byteAt B 0 = familyMagic f) :
    ∃ i C, decodeRequest B = .ok i ∧ encode i = .request C ∧ byteAt C 0 = familyMagic f := by
  cases f with
  | width c =>
    exact ⟨_, _, decodeRequest_width h, encode_widthRequest .., byteAt_pack_header _ _ _ _ _ (by decide)⟩
  | retune => exact ⟨_, _, decodeRequest_retune h, encode_reqRetune .., rfl⟩
  | retune2 => exact ⟨_, _, decodeRequest_retune2 h, encode_reqRetune2 .., rfl⟩

theorem decodeRequest_error_iff (B : Packet) : (∃ e, decodeRequest B = .error e) ↔ byteAt B 0 ∉ magicTags := by
  refine ⟨fun ⟨e, he⟩ hmem => ?_, fun h => ⟨_, decodeRequest_foreign h⟩⟩
  obtain ⟨f, hf⟩ := exists_family_of_mem_magicTags hmem
  obtain ⟨i, -, hi, -⟩ := decodeRequest_family hf
  exact nomatch hi.symm.trans he

/-- What a packet is read as encodes to a packet of its magic, which is read alike. -/
theorem encode_of_decodeRequest {B : Packet} {i : Instr} (h : decodeRequest B = .ok i) :
    ∃ C, encode i = .request C ∧ byteAt C 0 = byteAt B 0 ∧ decodeRequest C = .ok i := by
  have hmem : byteAt B 0 ∈ magicTags := by
    by_contra hforeign
    exact nomatch h.symm.trans (decodeRequest_foreign hforeign)
  obtain ⟨f, hf⟩ := exists_family_of_mem_magicTags hmem
  obtain ⟨j, C, hj, himage, hmagic⟩ := decodeRequest_family hf
  obtain rfl : i = j := Except.ok.inj (h.symm.trans hj)
  exact ⟨C, himage, hmagic.trans hf.symm, decodeRequest_of_encode himage⟩

/-- A conditional reading is the reading of a conditional. -/
theorem ite_ok (b : Bool) (i j : Instr) :
    (if b then .ok i else .ok j : Except DecodeError Instr) = .ok (if b then i else j) := by
  cases b <;> rfl

/-- Settles O16: each field a row is read from is the bytes the format lists, and nothing else of the packet is read. -/
theorem requestsDecodeToTheirFields : Obligations.RequestsDecodeToTheirFields := by
  refine ⟨fun B => ⟨fun h => ?_, fun h => ?_, fun h => ?_, fun h => ?_, fun h => ?_, fun h => ?_, fun h => ?_,
    decodeRequest_error_iff B⟩, fun B i h => encode_of_decodeRequest h⟩
  · have ha : addrField .c8x8 8 B = byteAt B 4 := ofNat_memRead_one B 4
    have hd : dataField .c8x8 8 B = byteAt B 5 := ofNat_memRead_one B 5
    rw [decode, decodeRequest_8x8 h, ha, hd]
    exact ite_ok ..
  · have ha : addrField .c8x16 8 B = byteAt B 4 := ofNat_memRead_one B 4
    have hd : dataField .c8x16 16 B = byteAt B 6 ++ byteAt B 5 := ofNat_memRead_two B 5
    rw [decode, decodeRequest_8x16 h, ha, hd]
    exact ite_ok ..
  · have ha : addrField .c8x32 8 B = byteAt B 4 := ofNat_memRead_one B 4
    have hd : dataField .c8x32 32 B = byteAt B 8 ++ byteAt B 7 ++ byteAt B 6 ++ byteAt B 5 := ofNat_memRead_four B 5
    rw [decode, decodeRequest_8x32 h, ha, hd]
    exact ite_ok ..
  · have ha : addrField .c16x64 16 B = byteAt B 5 ++ byteAt B 4 := ofNat_memRead_two B 4
    have hd : dataField .c16x64 64 B = dataOf .c16x64 B := ofNat_memRead_eight B 6
    rw [decode, decodeRequest_16x64 h, ha, hd]
    exact ite_ok ..
  · have ha : addrField .c32x32 32 B = byteAt B 7 ++ byteAt B 6 ++ byteAt B 5 ++ byteAt B 4 := ofNat_memRead_four B 4
    have hd : dataField .c32x32 32 B = byteAt B 11 ++ byteAt B 10 ++ byteAt B 9 ++ byteAt B 8 := ofNat_memRead_four B 8
    rw [decode, decodeRequest_32x32 h, ha, hd]
    exact ite_ok ..
  · rw [decode, decodeRequest_retune h, ofNat_memRead_duration, nintField_eq_append, nfracField_eq_append]
    rfl
  · rw [decode, decodeRequest_retune2 h, ofNat_memRead_duration, ofNat_memRead_two]
    rfl

/-- Settles O18: each word is evaluated. -/
theorem sampleWordsDecode : Obligations.SampleWordsDecode := by
  refine ⟨rfl, rfl, rfl, rfl, rfl, rfl⟩

end Sys2Proof.Encoding
end

section
/-! The packets of the rows of opcode_table.json (30_encoding.md R114): O17. -/

namespace Sys2Proof.Encoding

open Machine Laws WidthCodecs RetuneCodecs TargetMap

/-! The patterns of the rows. -/

theorem fitsRow_iff {b0 b1 b2 m0 m1 m2 : Byte} {B : Packet} :
    fitsRow ⟨#v[b0, b1, b2], #v[m0, m1, m2]⟩ B ↔
      byteAt B 0 &&& m0 = b0 ∧ byteAt B 1 &&& m1 = b1 ∧ byteAt B 2 &&& m2 = b2 :=
  Fin.forall_fin_succ.trans (and_congr Iff.rfl Fin.forall_fin_two)

/-- A row that fixes the magic alone: the responses, the generic accesses and the retunes. -/
def magicPattern (f : Family) : RowPattern := ⟨#v[familyMagic f, 0x00, 0x00], #v[0xFF, 0x00, 0x00]⟩

/-- A request row of a width class: magic and write bit. -/
def requestPattern (c : WidthClass) (write : Bool) : RowPattern := ⟨#v[widthMagic c, 0x00, flagsOf write], #v[0xFF, 0x00, 0x01]⟩

/-- A named operation's row: magic, target and write bit. -/
def namedPattern (c : WidthClass) (target : Byte) (write : Bool) : RowPattern :=
  ⟨#v[widthMagic c, target, flagsOf write], #v[0xFF, 0xFF, 0x01]⟩

theorem fitsRow_magicPattern {f : Family} {B : Packet} (h : byteAt B 0 = familyMagic f) : fitsRow (magicPattern f) B := by
  rw [magicPattern, fitsRow_iff, h]
  exact ⟨BitVec.and_allOnes, BitVec.and_zero, BitVec.and_zero⟩

section
variable (c : WidthClass) (t : Nat) (w : Bool) (a d : Nat)

theorem byteAt_pack_zero : byteAt (pack c t w a d) 0 = widthMagic c := byteAt_pack_header c t w a d (by decide)

theorem byteAt_pack_one : byteAt (pack c t w a d) 1 = BitVec.ofNat 8 t := byteAt_pack_header c t w a d (by decide)

theorem byteAt_pack_two : byteAt (pack c t w a d) 2 = flagsOf w := byteAt_pack_header c t w a d (by decide)

theorem flagsOf_and_one : flagsOf w &&& 0x01 = flagsOf w := by cases w <;> rfl

theorem fitsRow_requestPattern : fitsRow (requestPattern c w) (pack c t w a d) := by
  rw [requestPattern, fitsRow_iff, byteAt_pack_zero, byteAt_pack_two]
  exact ⟨BitVec.and_allOnes, BitVec.and_zero, flagsOf_and_one w⟩

theorem fitsRow_namedPattern : fitsRow (namedPattern c (BitVec.ofNat 8 t) w) (pack c t w a d) := by
  rw [namedPattern, fitsRow_iff, byteAt_pack_zero, byteAt_pack_one, byteAt_pack_two]
  exact ⟨BitVec.and_allOnes, BitVec.and_allOnes, flagsOf_and_one w⟩

end

/-! The packet rows. -/

theorem rowPattern_widthRequest (c : WidthClass) (w : Bool) (t : Byte) (a : BitVec (8 * addrWidth c))
    (d : BitVec (8 * dataWidth c)) : rowPattern (widthRequest c w t a d) = requestPattern c w := by
  cases c <;> cases w <;> rfl

theorem fitsRow_request {i : Instr} {B : Packet} (h : encode i = .request B) : fitsRow (rowPattern i) B := by
  rcases request_cases h with ⟨c, w, t, a, d, rfl⟩ | ⟨ts, ni, nf, fb, bb, xb, rfl⟩ | ⟨ts, np, rp, pb, sp, rfl⟩
  · rw [encode_widthRequest] at h
    cases h
    rw [rowPattern_widthRequest]
    exact fitsRow_requestPattern c _ w _ _
  · rw [encode_reqRetune] at h
    cases h
    exact fitsRow_magicPattern (f := .retune) rfl
  · rw [encode_reqRetune2] at h
    cases h
    exact fitsRow_magicPattern (f := .retune2) rfl

/-- A response row is the row of its family. -/
theorem exists_responseRow {i : Instr} {B : Packet} (h : encode i = .response B) : ∃ f b, i = responseRow f b := by
  cases i <;> simp only [encode, reduceCtorEq] at h
  case rsp8x8 b => exact ⟨.width .c8x8, b, rfl⟩
  case rsp8x16 b => exact ⟨.width .c8x16, b, rfl⟩
  case rsp8x32 b => exact ⟨.width .c8x32, b, rfl⟩
  case rsp16x64 b => exact ⟨.width .c16x64, b, rfl⟩
  case rsp32x32 b => exact ⟨.width .c32x32, b, rfl⟩
  case rspRetune b => exact ⟨.retune, b, rfl⟩
  case rspRetune2 b => exact ⟨.retune2, b, rfl⟩

theorem rowPattern_responseRow (f : Family) (b : Body) : rowPattern (responseRow f b) = magicPattern f := by
  cases f with
  | width c => cases c <;> rfl
  | retune => rfl
  | retune2 => rfl

theorem fitsRow_response {i : Instr} {B : Packet} (h : encode i = .response B) : fitsRow (rowPattern i) B := by
  obtain ⟨f, b, rfl⟩ := exists_responseRow h
  rw [encode_responseRow] at h
  cases h
  rw [rowPattern_responseRow]
  exact fitsRow_magicPattern rfl

/-! The first requests of the operation rows. A request may be none, where the operation is rejected. -/

/-- What holds of a request's family and packet, where there is a request (R221). -/
def RequestSatisfies (P : Family → Packet → Prop) (req : Option (Family × Packet)) : Prop :=
  ∀ fam B, req = some (fam, B) → P fam B

section
variable {P : Family → Packet → Prop} {fam : Family} {B : Packet}

theorem requestSatisfies_some (h : P fam B) : RequestSatisfies P (some (fam, B)) := by
  intro fam' B' heq
  cases heq
  exact h

theorem requestSatisfies_none : RequestSatisfies P none := nofun

theorem requestSatisfies_ite {q : Prop} [Decidable q] (h : P fam B) :
    RequestSatisfies P (if q then some (fam, B) else none) := by
  split
  · exact requestSatisfies_some h
  · exact requestSatisfies_none

end

/-- The packet of a request fits the row. -/
def RequestFits (p : RowPattern) (req : Option (Family × Packet)) : Prop := RequestSatisfies (fun _ B => fitsRow p B) req

theorem requestFits_generic (c : WidthClass) (o : OpFields) : RequestFits (magicPattern (.width c)) (genericRequest c o) :=
  requestSatisfies_some (fitsRow_magicPattern (byteAt_pack_zero ..))

theorem requestFits_read (c : WidthClass) (t : Nat) (o : OpFields) :
    RequestFits (namedPattern c (BitVec.ofNat 8 t) false) (readRequest c t o) :=
  requestSatisfies_some (fitsRow_namedPattern _ _ _ _ _)

theorem requestFits_write (c : WidthClass) (t : Nat) (o : OpFields) :
    RequestFits (namedPattern c (BitVec.ofNat 8 t) true) (writeRequest c t o) :=
  requestSatisfies_some (fitsRow_namedPattern _ _ _ _ _)

theorem requestFits_tamerGet (cfg : Cfg) : RequestFits (namedPattern .c8x8 2 false) (tamerGetRequest cfg) :=
  requestSatisfies_some (fitsRow_namedPattern .c8x8 2 _ _ _)

theorem requestFits_tamerSet (cfg : Cfg) (o : OpFields) : RequestFits (namedPattern .c8x8 2 true) (tamerSetRequest cfg o) :=
  requestSatisfies_ite <| fitsRow_namedPattern .c8x8 2 _ _ _

/-- A trigger's packet has the target of the descriptor's channel, which is the row's (R114, R232). -/
theorem requestFits_trig (cfg : Cfg) (w : Bool) (d : Nat) (o : OpFields) :
    RequestFits (namedPattern .c8x8 (BitVec.ofNat 8 (trigTarget o.chan)) w) (trigRequest cfg w d o) := by
  unfold trigRequest
  split
  · exact requestSatisfies_some (fitsRow_namedPattern _ _ _ _ _)
  · exact requestSatisfies_none

theorem requestFits_iq (w : Bool) (d : Nat) (o : OpFields) : RequestFits (namedPattern .c8x16 1 w) (iqRequest w d o) :=
  requestSatisfies_ite <| fitsRow_namedPattern .c8x16 1 _ _ _

theorem requestFits_retune (o : OpFields) : RequestFits (magicPattern .retune) (retuneRequest o) :=
  requestSatisfies_ite <| fitsRow_magicPattern (by rw [packRetune, retunePacket_eq_layoutRetune]; rfl)

theorem requestFits_retune2 (o : OpFields) : RequestFits (magicPattern .retune2) (retune2Request o) :=
  requestSatisfies_ite <| fitsRow_magicPattern (by rw [packRetune2, retune2Packet_eq_layoutRetune2]; rfl)

theorem requestFits_trig_of_chan {o : OpFields} {chan : BitVec 8} (h : (o.chan == chan) = true) (cfg : Cfg) (w : Bool) (d : Nat) :
    RequestFits (namedPattern .c8x8 (BitVec.ofNat 8 (trigTarget chan)) w) (trigRequest cfg w d o) :=
  eq_of_beq h ▸ requestFits_trig cfg w d o

/-- The first request of a well-formed operation fits the operation's row, row by row (R114, R221). -/
theorem requestFits_rowPattern {i : Instr} {d : OpDesc} (h : encode i = .op d) (hwf : i.wellFormed = true)
    (hdrain : d.opc ≠ Opc.drain) (cfg : Cfg) : RequestFits (rowPattern i) (requestOf cfg d) := by
  cases i <;> simp only [encode, Image.op.injEq, reduceCtorEq] at h <;> subst h
  case drain => exact absurd rfl hdrain
  case acc8x8 | acc8x16 | acc8x32 | acc16x64 | acc32x32 => exact requestFits_generic _ _
  case tamerGet => exact requestFits_tamerGet cfg
  case tamerSet o => exact requestFits_tamerSet cfg o
  case trigReadTx | trigReadRx | trigWriteTx | trigWriteRx => exact requestFits_trig_of_chan hwf cfg _ _
  case iqcorrRead | iqcorrWrite => exact requestFits_iq _ _ _
  case agcDcWrite => exact requestSatisfies_some (fitsRow_namedPattern .c8x16 2 _ _ _)
  case fpgaVersionRead => exact requestSatisfies_some (fitsRow_namedPattern .c8x32 0 _ _ _)
  case retune o => exact requestFits_retune o
  case retune2 o => exact requestFits_retune2 o
  case lmsRead | si5338Read | vctcxoDacRead | ad56x1Read | ina219Read | configRead | xb200Read | rffeRead | adf400xRead |
      fastlockRead | ad9361Read | rficRead | expgpioRead | expgpioDirRead | adiAxiRead | wishboneRead =>
    exact requestFits_read _ _ _
  all_goals exact requestFits_write _ _ _

theorem exists_op_of_isOperation {i : Instr} (h : isOperation i = true) : ∃ d, encode i = .op d := by
  unfold isOperation at h
  split at h
  · next d himage => exact ⟨d, himage⟩
  · cases h
  · cases h

/-- An operation whose accept step goes to `D_SEND` has a request, and that is what stands in `d_req` (R192). -/
theorem request_of_exec_send {i : Instr} {d : OpDesc} {s t : State} (himage : encode i = .op d) (hidle : s.dState = .idle)
    (hexec : exec i s = .next t) (hsend : t.dState = .send) :
    d.opc ≠ Opc.drain ∧ ∃ fam, requestOf s.cfg d = some (fam, t.dReq) := by
  by_cases hdrain : d.opc = Opc.drain
  · rw [exec_of_drain himage hdrain, execDrain_idle hidle] at hexec
    cases hexec
    cases hsend
  · refine ⟨hdrain, ?_⟩
    rw [exec_of_op himage hdrain] at hexec
    cases hreq : requestOf s.cfg d with
    | none =>
      rw [hreq, accept_rejected hidle] at hexec
      cases hexec
      cases hsend
    | some p =>
      obtain ⟨fam, B⟩ := p
      rw [hreq, accept_requested hidle, acceptRequest_eq] at hexec
      cases hexec
      exact ⟨fam, rfl⟩

/-- Settles O17: a packet row's image is built with the row's magic and write bit, and an operation's first request with the
target as well. -/
theorem packetsFitTheirTableRow : Obligations.PacketsFitTheirTableRow := by
  refine ⟨fun i B h => h.elim fitsRow_request fitsRow_response, fun i s t hop hwf hidle hexec hsend => ?_⟩
  obtain ⟨d, himage⟩ := exists_op_of_isOperation hop
  obtain ⟨hdrain, fam, hreq⟩ := request_of_exec_send himage hidle hexec hsend
  exact requestFits_rowPattern himage hwf hdrain s.cfg fam t.dReq hreq

end Sys2Proof.Encoding
end

section
/-! The accept step, operation by operation (43_target_map.md R223 to R271, 44_retune_engine.md R301, R302): O19 to O30. Each
operation's next state is what the table-driven `DECODE` says of its descriptor. -/

namespace Sys2Proof.TargetMap

open Machine Laws Encoding

section
variable {i : Instr} {d : OpDesc} {s : State} {fam : Family} {B : Packet}

/-- An operation row in an idle state is the accept step of its descriptor (R192). -/
theorem exec_eq_acceptStep (himage : encode i = .op d) (hidle : s.dState = .idle) : exec i s = .next (acceptStep d s) := by
  by_cases hdrain : d.opc = Opc.drain
  · rw [exec_of_drain himage hdrain, execDrain_idle hidle, acceptStep, if_pos hdrain, ← hdrain]
  · rw [exec_of_op himage hdrain, acceptStep, if_neg hdrain]
    cases requestOf s.cfg d with
    | none => exact accept_rejected hidle ..
    | some p => exact accept_requested hidle ..

/-- An operation row with a request in the table is accepted with it. -/
theorem exec_acceptedAs (himage : encode i = .op d) (hidle : s.dState = .idle) (hdrain : (d.opc == Opc.drain) = false)
    (hspec : decodeSpec s.cfg d = some (fam, B)) : exec i s = .next (acceptedAs d fam B s) := by
  rw [exec_eq_acceptStep himage hidle, acceptStep_eq_decodeSpec (ne_of_beq_false hdrain), hspec]

/-- The same for an operation that is no retune. -/
theorem exec_accepted (himage : encode i = .op d) (hidle : s.dState = .idle)
    (hdrain : (d.opc == Opc.drain) = false) (hretune : retuneOpc d.opc = false)
    (hspec : decodeSpec s.cfg d = some (fam, B)) : exec i s = .next (acceptedState d fam B s) := by
  rw [exec_acceptedAs himage hidle hdrain hspec]
  rw [retuneOpc, Bool.or_eq_false_iff] at hretune
  obtain ⟨h70, h71⟩ := hretune
  rw [acceptedAs, if_neg (ne_of_beq_false h70), if_neg (ne_of_beq_false h71)]

/-- An operation row that the table calls INVALID is rejected. -/
theorem exec_rejected (himage : encode i = .op d) (hidle : s.dState = .idle) (hdrain : (d.opc == Opc.drain) = false)
    (hspec : decodeSpec s.cfg d = none) : exec i s = .next (rejectedState d s) := by
  rw [exec_eq_acceptStep himage hidle, acceptStep_eq_decodeSpec (ne_of_beq_false hdrain), hspec]

end

/-! The operations with no check: the table's request is the one of the statement. -/

/-- Settles O19. -/
theorem genericAccessesAreAccepted : Obligations.GenericAccessesAreAccepted :=
  fun _ _ hidle =>
    ⟨exec_accepted rfl hidle rfl rfl rfl, exec_accepted rfl hidle rfl rfl rfl, exec_accepted rfl hidle rfl rfl rfl,
      exec_accepted rfl hidle rfl rfl rfl, exec_accepted rfl hidle rfl rfl rfl⟩

/-- Settles O20. -/
theorem lmsAndSi5338AreAccepted : Obligations.LmsAndSi5338AreAccepted :=
  fun _ _ hidle =>
    ⟨exec_accepted rfl hidle rfl rfl rfl, exec_accepted rfl hidle rfl rfl rfl, exec_accepted rfl hidle rfl rfl rfl,
      exec_accepted rfl hidle rfl rfl rfl⟩

/-- Settles O23. -/
theorem dacAndMonitorAreAccepted : Obligations.DacAndMonitorAreAccepted :=
  fun _ _ hidle =>
    ⟨exec_accepted rfl hidle rfl rfl rfl, exec_accepted rfl hidle rfl rfl rfl, exec_accepted rfl hidle rfl rfl rfl,
      exec_accepted rfl hidle rfl rfl rfl, exec_accepted rfl hidle rfl rfl rfl, exec_accepted rfl hidle rfl rfl rfl⟩

/-- Settles O25. -/
theorem agcIsAcceptedAtIndexZero : Obligations.AgcIsAcceptedAtIndexZero :=
  fun _ _ hidle => exec_accepted rfl hidle rfl rfl rfl

/-- Settles O26. -/
theorem eightByThirtyTwoAreAccepted : Obligations.EightByThirtyTwoAreAccepted :=
  fun _ _ hidle =>
    ⟨exec_accepted rfl hidle rfl rfl rfl, exec_accepted rfl hidle rfl rfl rfl, exec_accepted rfl hidle rfl rfl rfl,
      exec_accepted rfl hidle rfl rfl rfl, exec_accepted rfl hidle rfl rfl rfl, exec_accepted rfl hidle rfl rfl rfl,
      exec_accepted rfl hidle rfl rfl rfl, exec_accepted rfl hidle rfl rfl rfl, exec_accepted rfl hidle rfl rfl rfl,
      exec_accepted rfl hidle rfl rfl rfl, exec_accepted rfl hidle rfl rfl rfl⟩

/-- Settles O27. -/
theorem sixteenBySixtyFourAreAccepted : Obligations.SixteenBySixtyFourAreAccepted :=
  fun _ _ hidle =>
    ⟨exec_accepted rfl hidle rfl rfl rfl, exec_accepted rfl hidle rfl rfl rfl, exec_accepted rfl hidle rfl rfl rfl,
      exec_accepted rfl hidle rfl rfl rfl⟩

/-- Settles O28. -/
theorem thirtyTwoByThirtyTwoAreAccepted : Obligations.ThirtyTwoByThirtyTwoAreAccepted :=
  fun _ _ hidle =>
    ⟨exec_accepted rfl hidle rfl rfl rfl, exec_accepted rfl hidle rfl rfl rfl, exec_accepted rfl hidle rfl rfl rfl,
      exec_accepted rfl hidle rfl rfl rfl, exec_accepted rfl hidle rfl rfl rfl, exec_accepted rfl hidle rfl rfl rfl,
      exec_accepted rfl hidle rfl rfl rfl, exec_accepted rfl hidle rfl rfl rfl⟩

/-! The operations with a check: the two answers of `DECODE` (R221). -/

section
variable {cfg : Cfg} {o : OpFields}

/-- R235. -/
theorem decodeSpec_tamerSet :
    decodeSpec cfg ⟨0x25, o⟩ =
      if o.data ∈ ([0, 1, 2] : List (BitVec 64)) then some (.width .c8x8, layout8x8 2 1 cfg.tamerAddr (byteOf o.data 0))
      else none := rfl

/-- The trigger request of a write flag, where its channel and signal are in their domains (R232, R236, R237). -/
def trigSpec (cfg : Cfg) (write : Bool) (o : OpFields) : Option (Family × Packet) :=
  if o.chan ∈ ([0, 1] : List (BitVec 8)) ∧ o.sel ∈ ([0, 1, 2] : List (BitVec 8)) then
    some (.width .c8x8, layout8x8 (if o.chan = 1 then 3 else 4) (flagsOf write)
      (if o.sel = 0 then cfg.trigAddr[0] else if o.sel = 1 then cfg.trigAddr[1] else cfg.trigAddr[2])
      (if write then byteOf o.data 0 else 0))
  else none

theorem decodeSpec_trigRead : decodeSpec cfg ⟨0x26, o⟩ = trigSpec cfg false o := rfl

theorem decodeSpec_trigWrite : decodeSpec cfg ⟨0x27, o⟩ = trigSpec cfg true o := rfl

theorem trigSpec_accepted {chan : BitVec 8} (hchan : o.chan = chan) (hmem : chan ∈ ([0, 1] : List (BitVec 8))) {k : Fin 3}
    (hsel : o.sel = BitVec.ofNat 8 k.val) (write : Bool) :
    trigSpec cfg write o = some (.width .c8x8, layout8x8 (if chan = 1 then 3 else 4) (flagsOf write) cfg.trigAddr[k]
      (if write then byteOf o.data 0 else 0)) := by
  have hsignal : BitVec.ofNat 8 k.val ∈ ([0, 1, 2] : List (BitVec 8)) := by
    match k with
    | 0 | 1 | 2 => decide
  rw [trigSpec, hchan, hsel, if_pos ⟨hmem, hsignal⟩]
  match k with
  | 0 | 1 | 2 => rfl

theorem trigSpec_rejected (h : 3 ≤ o.sel.toNat) (write : Bool) : trigSpec cfg write o = none :=
  if_neg fun ⟨_, hsel⟩ => absurd (sel_lt_three_iff_mem.mpr hsel) (Nat.not_lt.mpr h)

/-- R241, R242. -/
theorem decodeSpec_iqcorrRead :
    decodeSpec cfg ⟨0x32, o⟩ =
      if o.sel ∈ ([0, 1, 2, 3] : List (BitVec 8)) then some (.width .c8x16, layout8x16 1 0 o.sel 0) else none := rfl

theorem decodeSpec_iqcorrWrite :
    decodeSpec cfg ⟨0x33, o⟩ =
      if o.sel ∈ ([0, 1, 2, 3] : List (BitVec 8)) then
        some (.width .c8x16, layout8x16 1 1 o.sel (o.data.extractLsb' 0 16))
      else none := rfl

/-- The channel check of a retune (R301, R302). -/
theorem chan_not_mem (h0 : o.chan ≠ 0) (h1 : o.chan ≠ 1) : o.chan ∉ ([0, 1] : List (BitVec 8)) := by
  simp only [List.mem_cons, List.not_mem_nil, or_false, not_or]
  exact ⟨h0, h1⟩

theorem decodeSpec_retune_rejected (h0 : o.chan ≠ 0) (h1 : o.chan ≠ 1) : decodeSpec cfg ⟨0x70, o⟩ = none :=
  if_neg (chan_not_mem h0 h1)

theorem decodeSpec_retune2_rejected (h0 : o.chan ≠ 0) (h1 : o.chan ≠ 1) : decodeSpec cfg ⟨0x71, o⟩ = none :=
  if_neg (chan_not_mem h0 h1)

theorem acceptedAs_retune (fam : Family) (B : Packet) (s : State) :
    acceptedAs ⟨0x70, o⟩ fam B s = acceptedRetune ⟨0x70, o⟩ fam .retune B s := rfl

theorem acceptedAs_retune2 (fam : Family) (B : Packet) (s : State) :
    acceptedAs ⟨0x71, o⟩ fam B s = acceptedRetune ⟨0x71, o⟩ fam .retune2 B s := rfl

end

/-- Settles O21. -/
theorem tamerOperationsAreAcceptedOrRejected : Obligations.TamerOperationsAreAcceptedOrRejected := by
  refine fun o s hidle => ⟨exec_accepted rfl hidle rfl rfl rfl, ?_⟩
  by_cases hmode : o.data = 0 ∨ o.data = 1 ∨ o.data = 2
  · rw [if_pos hmode]
    exact exec_accepted rfl hidle rfl rfl (decodeSpec_tamerSet.trans (if_pos (by simpa using hmode)))
  · rw [if_neg hmode]
    exact exec_rejected rfl hidle rfl (decodeSpec_tamerSet.trans (if_neg (by simpa using hmode)))

/-- Settles O22: the channel gives the target, the signal the configured address. -/
theorem triggerOperationsAreAcceptedOrRejected : Obligations.TriggerOperationsAreAcceptedOrRejected := by
  refine fun o s hidle => ⟨fun k hsel => ⟨fun hchan => ⟨?_, ?_⟩, fun hchan => ⟨?_, ?_⟩⟩, fun hsel => ⟨?_, ?_, ?_, ?_⟩⟩
  · exact exec_accepted rfl hidle rfl rfl (decodeSpec_trigRead.trans (trigSpec_accepted hchan (by decide) hsel false))
  · exact exec_accepted rfl hidle rfl rfl (decodeSpec_trigWrite.trans (trigSpec_accepted hchan (by decide) hsel true))
  · exact exec_accepted rfl hidle rfl rfl (decodeSpec_trigRead.trans (trigSpec_accepted hchan (by decide) hsel false))
  · exact exec_accepted rfl hidle rfl rfl (decodeSpec_trigWrite.trans (trigSpec_accepted hchan (by decide) hsel true))
  · exact exec_rejected rfl hidle rfl (decodeSpec_trigRead.trans (trigSpec_rejected hsel false))
  · exact exec_rejected rfl hidle rfl (decodeSpec_trigWrite.trans (trigSpec_rejected hsel true))
  · exact exec_rejected rfl hidle rfl (decodeSpec_trigRead.trans (trigSpec_rejected hsel false))
  · exact exec_rejected rfl hidle rfl (decodeSpec_trigWrite.trans (trigSpec_rejected hsel true))

/-- Settles O24. -/
theorem iqCorrectionIsAcceptedOrRejected : Obligations.IqCorrectionIsAcceptedOrRejected := by
  refine fun o s hidle => ⟨fun hsel => ?_, fun hsel => ?_⟩
  · have hmem := sel_le_three_iff_mem.mp hsel
    exact ⟨exec_accepted rfl hidle rfl rfl (decodeSpec_iqcorrRead.trans (if_pos hmem)),
      exec_accepted rfl hidle rfl rfl (decodeSpec_iqcorrWrite.trans (if_pos hmem))⟩
  · have hmem : o.sel ∉ ([0, 1, 2, 3] : List (BitVec 8)) := fun h =>
      absurd (sel_le_three_iff_mem.mpr h) (Nat.not_le.mpr hsel)
    exact ⟨exec_rejected rfl hidle rfl (decodeSpec_iqcorrRead.trans (if_neg hmem)),
      exec_rejected rfl hidle rfl (decodeSpec_iqcorrWrite.trans (if_neg hmem))⟩

/-- Settles O29: with a channel in its domain the retune is scheduled with the table's packet, and a rejected one is judged by
its own code, so it leaves `R_ERR`. -/
theorem retunesAreScheduledOrRejected : Obligations.RetunesAreScheduledOrRejected := by
  refine fun o s hidle => ⟨fun hchan => ⟨?_, ?_⟩, fun h0 h1 => ⟨?_, rfl, ?_, rfl⟩⟩
  · rw [← acceptedAs_retune]
    exact exec_acceptedAs rfl hidle rfl (if_pos (by simpa using hchan))
  · rw [← acceptedAs_retune2]
    exact exec_acceptedAs rfl hidle rfl (if_pos (by simpa using hchan))
  · exact exec_rejected rfl hidle rfl (decodeSpec_retune_rejected h0 h1)
  · exact exec_rejected rfl hidle rfl (decodeSpec_retune2_rejected h0 h1)

/-- Settles O30. -/
theorem drainIsAcceptedWithoutARequest : Obligations.DrainIsAcceptedWithoutARequest :=
  fun _ _ hidle => execDrain_idle hidle _

end Sys2Proof.TargetMap
end

section
/-! The rows outside and inside their steps, the step as `exec`, and the reset state (42_dispatcher.md R191 to R196,
70_reset_and_hazards.md R350): O34, O40, O41, O42, O43 and O60. -/

namespace Sys2Proof.Dispatcher

open Machine Laws Encoding WidthCodecs TargetMap

/-! Packet rows (R43, R193, R194). -/

section
variable {i : Instr} {B : Packet} {s : State}

/-- In `D_SEND` with an OK to come, a request row sends its packet (R193). -/
theorem exec_request_sent {rest : List SendOutcome} (himage : encode i = .request B) (hsend : s.dState = .send)
    (hok : s.env.sends = .ok :: rest) :
    exec i s = .next { withSends rest (recorded (.sent s.cfg.cmdEp B .ok) s) with dReq := B, dState := .recv } := by
  rw [exec_of_request himage, sendRequest_sending hsend, sendStep_ok (s := { s with dReq := B }) hok]
  rfl

theorem exec_request_elsewhere (himage : encode i = .request B) (h : s.dState ≠ .send) : exec i s = .next s := by
  rw [exec_of_request himage, sendRequest_elsewhere h]

theorem exec_response_elsewhere (himage : encode i = .response B) (h : s.dState ≠ .recv) : exec i s = .next s := by
  rw [exec_of_response himage, receive_elsewhere h]

theorem exec_op_busy {d : OpDesc} (himage : encode i = .op d) (h : s.dState ≠ .idle) : exec i s = .next s := by
  by_cases hdrain : d.opc = Opc.drain
  · rw [exec_of_drain himage hdrain, execDrain_busy h]
  · rw [exec_of_op himage hdrain, accept_busy h]

end

/-- Settles O43. -/
theorem packetsOutsideTheirStepChangeNothing : Obligations.PacketsOutsideTheirStepChangeNothing :=
  fun _ _ _ => ⟨exec_request_elsewhere, exec_response_elsewhere⟩

/-! The packets of the width-class request rows are their formats (R93 to R97). -/

section
variable (t : Byte) (w : Bool)

theorem pack_eq_layout8x8 (a d : BitVec 8) : pack .c8x8 t.toNat w a.toNat d.toNat = layout8x8 t (flagsOf w) a d := by
  obtain ⟨h, -⟩ := packLaysOutEveryClass.1 t.toNat a.toNat d.toNat w
  simpa only [BitVec.ofNat_toNat, BitVec.setWidth_eq] using h

theorem pack_eq_layout8x16 (a : BitVec 8) (d : BitVec 16) :
    pack .c8x16 t.toNat w a.toNat d.toNat = layout8x16 t (flagsOf w) a d := by
  obtain ⟨-, h, -⟩ := packLaysOutEveryClass.1 t.toNat a.toNat d.toNat w
  simpa only [BitVec.ofNat_toNat, BitVec.setWidth_eq] using h

theorem pack_eq_layout8x32 (a : BitVec 8) (d : BitVec 32) :
    pack .c8x32 t.toNat w a.toNat d.toNat = layout8x32 t (flagsOf w) a d := by
  obtain ⟨-, -, h, -⟩ := packLaysOutEveryClass.1 t.toNat a.toNat d.toNat w
  simpa only [BitVec.ofNat_toNat, BitVec.setWidth_eq] using h

theorem pack_eq_layout16x64 (a : BitVec 16) (d : BitVec 64) :
    pack .c16x64 t.toNat w a.toNat d.toNat = layout16x64 t (flagsOf w) a d := by
  obtain ⟨-, -, -, h, -⟩ := packLaysOutEveryClass.1 t.toNat a.toNat d.toNat w
  simpa only [BitVec.ofNat_toNat, BitVec.setWidth_eq] using h

theorem pack_eq_layout32x32 (a d : BitVec 32) :
    pack .c32x32 t.toNat w a.toNat d.toNat = layout32x32 t (flagsOf w) a d := by
  obtain ⟨-, -, -, -, h⟩ := packLaysOutEveryClass.1 t.toNat a.toNat d.toNat w
  simpa only [BitVec.ofNat_toNat, BitVec.setWidth_eq] using h

end

/-- Settles O41: the image of each row is its format, and that is what the send step hands over. -/
theorem widthRequestsAreSent : Obligations.WidthRequestsAreSent := by
  intro s rest t a8 d8 a16 d16 a32 d32 d64 hsend hok sent
  have hsent : ∀ {i B C}, encode i = .request B → B = C → exec i s = .next (sent C) := fun himage h =>
    h ▸ exec_request_sent himage hsend hok
  exact ⟨hsent rfl (pack_eq_layout8x8 t false a8 d8), hsent rfl (pack_eq_layout8x8 t true a8 d8),
    hsent rfl (pack_eq_layout8x16 t false a8 d16), hsent rfl (pack_eq_layout8x16 t true a8 d16),
    hsent rfl (pack_eq_layout8x32 t false a8 d32), hsent rfl (pack_eq_layout8x32 t true a8 d32),
    hsent rfl (pack_eq_layout16x64 t false a16 d64), hsent rfl (pack_eq_layout16x64 t true a16 d64),
    hsent rfl (pack_eq_layout32x32 t false a32 d32), hsent rfl (pack_eq_layout32x32 t true a32 d32)⟩

/-- Settles O42. -/
theorem retuneRequestsAreSent : Obligations.RetuneRequestsAreSent :=
  fun _ _ _ _ _ _ _ _ _ _ _ _ hsend hok =>
    ⟨exec_request_sent (encode_reqRetune ..) hsend hok, exec_request_sent (encode_reqRetune2 ..) hsend hok⟩

/-! The step as `exec` of what it takes (R192 to R194). -/

/-- Settles O34: the step and `exec` are the same accept, send or receive step, because what decodes has the image it was read
from. -/
theorem stepRunsTheDecodedInstruction : Obligations.StepRunsTheDecodedInstruction := by
  refine fun i s hrun => ⟨fun d rest hidle hoffer hdec => ?_, fun hsend himage _ => ?_, fun B rest hrecv hin hop hdec => ?_⟩
  · rw [step_running hrun, enabledStep_offer hidle hoffer]
    exact (exec_eq_acceptStep (s := withOffers rest s) (encode_of_decodeOp hdec) hidle).symm
  · rw [step_running hrun, enabledStep_send hsend, exec_of_request himage, sendRequest_sending hsend]
  · have htaken := receiveStep_handle (s := withRecvs rest (recorded (.received s.cfg.respEp (.ok 16 B)) s)) hop
      hrun.1.symm B
    rw [step_response hrun hrecv hin, exec_of_response (encode_of_decodeResponse hdec), htaken,
      receive_receiving (s := withRecvs rest (recorded (.received s.cfg.respEp (.ok 16 B)) s)) hrecv,
      takeResponse_handle (s := withRecvs rest (recorded (.received s.cfg.respEp (.ok 16 B)) s)) hop]

/-! What answers a next state (R26, R330). -/

/-- Each of the three kinds of row answers a next state, by the one shared operation behind its kind. -/
theorem exists_next_of_exec (i : Instr) (s : State) : ∃ t, exec i s = .next t := by
  cases himage : encode i with
  | op d =>
    by_cases hdrain : d.opc = Opc.drain
    · exact ⟨_, exec_of_drain himage hdrain s⟩
    · exact ⟨_, exec_of_op himage hdrain s⟩
  | request B => exact ⟨_, exec_of_request himage s⟩
  | response B => exact ⟨_, exec_of_response himage s⟩

/-- Settles O60. -/
theorem onlyABadInstantiationIsRefused : Obligations.OnlyABadInstantiationIsRefused :=
  ⟨exists_next_of_exec, fun s => ⟨fun hlen => ⟨_, step_of_respLen hlen⟩, fun hlen => by rw [step_eq, if_neg hlen]⟩⟩

/-! Reset (R350). -/

/-- The registers at their reset values are coherent, whatever the configuration and the environment. -/
theorem coherent_clearRegisters (s : State) : Coherent (clearRegisters s) where
  busy_no_result := fun _ => rfl
  scheduled_iff := by simp
  retune_in_flight := by simp
  family_of_op := fun hbusy => absurd rfl hbusy
  idle_copies := fun _ => ⟨rfl, rfl⟩
  idx_zero := fun _ => rfl
  agc_in_flight := fun hbusy => absurd rfl hbusy
  request_canonical := nofun

theorem linkInOrder_reset : LinkInOrder State.reset := ⟨rfl, fun _ => rfl⟩

/-- Settles O40: the reset state is what reset writes, so it is coherent. -/
theorem resetStateIsTheResetTable : Obligations.ResetStateIsTheResetTable := by
  have hzero : ∀ i < 16, byteAt State.reset.dReq i = 0 ∧ byteAt State.reset.dResp i = 0 := fun i _ =>
    ⟨byteAt_zeroPacket i, byteAt_zeroPacket i⟩
  exact ⟨rfl, hzero, rfl, rfl, rfl, rfl, rfl, rfl, rfl, rfl, rfl, coherent_clearRegisters State.reset, linkInOrder_reset⟩

end Sys2Proof.Dispatcher
end

section
/-! Everything a step can do, said once (42_dispatcher.md R192 to R196, R201, R205; 70_reset_and_hazards.md R350): the cases of
a response handler, and the cases of the enabled step. -/

namespace Sys2Proof.Dispatcher

open Machine Laws Encoding

/-! The handlers (R222, R247, R303). -/

/-- The family in flight is one of the two retune families. -/
def RetuneFamily (f : Family) : Prop := f = .retune ∨ f = .retune2

/-- The operation in flight is handled by `HANDLE_AGC` or `HANDLE_WC` (R194). -/
def NoRetuneHandler (s : State) : Prop := s.sOp.opc = Opc.agcDcWrite ∨ ∃ c, s.sFam = .width c

/-- Everything `HANDLE` can do with a buffer. -/
inductive HandleCase (B : Packet) (s : State) : State → Prop
  /-- The sequencer goes on to its next request (R247). -/
  | advanced (k : Fin 6) (hagc : s.sOp.opc = Opc.agcDcWrite) (hk : k.val = s.sIdx.val + 1) :
      HandleCase B s { s with sIdx := k, dReq := agcRequest s.sOp.fields k, dState := .send }
  /-- A width-class operation ends OK (R222, R247). -/
  | ended (r : Result) (hop : NoRetuneHandler s) : HandleCase B s (endOk r s)
  /-- A foreign magic in a width-class response (R109). -/
  | foreign (hop : NoRetuneHandler s) : HandleCase B s (raise .framingError ((byteAt B 0).setWidth 64) {} s)
  /-- A clear success bit or a value out of range (R328, R324). -/
  | failed (e : Status) (info : BitVec 64) (r : Result) (hop : NoRetuneHandler s)
      (he : e = .operationFailed ∨ e = .unexpectedValue) : HandleCase B s (raise e info r s)
  /-- A foreign magic in a retune response (R303). -/
  | retuneForeign (hfam : RetuneFamily s.sFam) :
      HandleCase B s (raise .framingError ((byteAt B 0).setWidth 64) {} { s with rState := .err })
  /-- The retune is done (R174, R303). -/
  | retuneDone (r : Result) (hfam : RetuneFamily s.sFam) : HandleCase B s (endOk r { s with rState := .done })
  /-- The retune failed at once (R174, R303). -/
  | retuneFailed (r : Result) (hfam : RetuneFamily s.sFam) (hts : s.rTs = s.cfg.retuneNow) :
      HandleCase B s (raise .tuneFailure s.rTs r { s with rState := .fail })
  /-- The retune queue is full (R174, R303). -/
  | retuneFull (r : Result) (hfam : RetuneFamily s.sFam) (hts : s.rTs ≠ s.cfg.retuneNow) :
      HandleCase B s (raise .queueFull s.rTs r { s with rState := .qfull })

theorem handleCase_agc {s : State} (hagc : s.sOp.opc = Opc.agcDcWrite) (B : Packet) : HandleCase B s (handleAgc B s) := by
  by_cases hm : byteAt B 0 = 0x42
  · by_cases hidx : s.sIdx.val = 5
    · rw [handleAgc_ends hm hidx]
      exact .ended _ (.inl hagc)
    · have hk : s.sIdx.val + 1 < 6 := by omega
      rw [handleAgc_advances hm ⟨s.sIdx.val + 1, hk⟩ rfl]
      exact .advanced _ hagc rfl
  · rw [handleAgc_foreign hm]
    exact .foreign (.inl hagc)

theorem handleCase_width {s : State} {c : WidthClass} (hfam : s.sFam = .width c) (B : Packet) :
    HandleCase B s (handleWidth c B s) := by
  have hop : NoRetuneHandler s := .inr ⟨c, hfam⟩
  rcases handleWidth_cases c B s with ⟨-, h⟩ | ⟨-, ⟨-, -, h⟩ | ⟨-, ⟨v, -, h⟩ | ⟨r, -, h⟩⟩⟩ <;> rw [h]
  · exact .foreign hop
  · exact .failed _ _ _ hop (.inl rfl)
  · exact .failed _ _ _ hop (.inr rfl)
  · exact .ended r hop

/-- A reply that an unpack rejects is rejected with the byte it found. -/
theorem handleCase_retune {s : State} {B : Packet} {reply : Except Byte RetuneReply} (hfam : RetuneFamily s.sFam)
    (hreply : ∀ m, reply = .error m → m = byteAt B 0) : HandleCase B s (handleRetune reply s) := by
  rcases handleRetune_cases reply s with ⟨m, hm, h⟩ | ⟨u, -, ⟨-, h⟩ | ⟨-, hts, h⟩ | ⟨-, hts, h⟩⟩ <;> rw [h]
  · rw [hreply m hm]
    exact .retuneForeign hfam
  · exact .retuneDone _ hfam
  · exact .retuneFailed _ hfam hts
  · exact .retuneFull _ hfam hts

theorem unpackRetune_error {B : Packet} {m : Byte} (h : unpackRetune B = .error m) : m = byteAt B 0 := by
  unfold unpackRetune at h
  split at h <;> cases h
  rfl

theorem unpackRetune2_error {B : Packet} {m : Byte} (h : unpackRetune2 B = .error m) : m = byteAt B 0 := by
  unfold unpackRetune2 at h
  split at h <;> cases h
  rfl

theorem handleCase_handle (B : Packet) (s : State) : HandleCase B s (handle B s) := by
  by_cases hagc : s.sOp.opc = Opc.agcDcWrite
  · rw [handle_agc hagc]
    exact handleCase_agc hagc B
  · cases hfam : s.sFam with
    | width c => rw [handle_width hagc hfam]; exact handleCase_width hfam B
    | retune => rw [handle_retune hagc hfam]; exact handleCase_retune (.inl hfam) fun _ => unpackRetune_error
    | retune2 => rw [handle_retune2 hagc hfam]; exact handleCase_retune (.inr hfam) fun _ => unpackRetune2_error

/-! The steps of the control FSM (R205). -/

/-- `s` once `Send` has returned this outcome (R193). -/
def handedOver (out : SendOutcome) (rest : List SendOutcome) (s : State) : State :=
  withSends rest (recorded (.sent s.cfg.cmdEp s.dReq out) s)

/-- `s` once `Recv` has returned this outcome (R194). -/
def delivered (out : RecvOutcome) (rest : List RecvOutcome) (s : State) : State :=
  withRecvs rest (recorded (.received s.cfg.respEp out) s)

/-- Everything the enabled step can do. -/
inductive StepCase (s : State) : State → Prop
  /-- The input the step needs has not come (R202). -/
  | waits (h : (s.dState = .idle ∧ s.env.offers = []) ∨ (s.dState = .send ∧ s.env.sends = []) ∨
      (s.dState = .recv ∧ s.env.recvs = [])) : StepCase s s
  /-- `DRAIN` is accepted (R201). -/
  | drainAccepted (d : OpDesc) (rest : List OpDesc) (hidle : s.dState = .idle) (hoffer : s.env.offers = d :: rest)
      (hdrain : d.opc = Opc.drain) : StepCase s (acceptDrain d (withOffers rest s))
  /-- `DECODE` answers INVALID (R221). -/
  | rejected (d : OpDesc) (rest : List OpDesc) (hidle : s.dState = .idle) (hoffer : s.env.offers = d :: rest)
      (hdrain : d.opc ≠ Opc.drain) (hreq : requestOf s.cfg d = none) : StepCase s (acceptInvalid d (withOffers rest s))
  /-- `DECODE` answers a request (R192). -/
  | accepted (d : OpDesc) (rest : List OpDesc) (fam : Family) (B : Packet) (hidle : s.dState = .idle)
      (hoffer : s.env.offers = d :: rest) (hdrain : d.opc ≠ Opc.drain) (hreq : requestOf s.cfg d = some (fam, B)) :
      StepCase s (acceptRequest d fam B (withOffers rest s))
  /-- `Send` succeeds (R193). -/
  | sent (rest : List SendOutcome) (hsend : s.dState = .send) (hin : s.env.sends = .ok :: rest) :
      StepCase s { handedOver .ok rest s with dState := .recv }
  /-- `Send` fails (R193, R197). -/
  | sendFailed (e : BitVec 8) (rest : List SendOutcome) (hsend : s.dState = .send) (hin : s.env.sends = .terr e :: rest) :
      StepCase s (transportFailed e (handedOver (.terr e) rest s))
  /-- `Recv` fails (R194, R197). -/
  | recvFailed (e : BitVec 8) (rest : List RecvOutcome) (hrecv : s.dState = .recv) (hin : s.env.recvs = .terr e :: rest) :
      StepCase s (transportFailed e (delivered (.terr e) rest s))
  /-- `DRAIN` discards what was delivered (R201). -/
  | drained (len : BitVec 8) (B : Packet) (rest : List RecvOutcome) (hrecv : s.dState = .recv)
      (hin : s.env.recvs = .ok len B :: rest) (hdrain : s.sOp.opc = Opc.drain) :
      StepCase s (drainDone (delivered (.ok len B) rest s))
  /-- A response of a wrong length (R195). -/
  | wrongLength (len : BitVec 8) (B : Packet) (rest : List RecvOutcome) (hrecv : s.dState = .recv)
      (hin : s.env.recvs = .ok len B :: rest) (hdrain : s.sOp.opc ≠ Opc.drain) (hlen : len ≠ s.cfg.respLen) :
      StepCase s (lengthFailed len (delivered (.ok len B) rest s))
  /-- A response of the right length goes to its handler (R194). -/
  | handled (len : BitVec 8) (B : Packet) (rest : List RecvOutcome) (hrecv : s.dState = .recv)
      (hin : s.env.recvs = .ok len B :: rest) (hdrain : s.sOp.opc ≠ Opc.drain) (hlen : len = s.cfg.respLen) {t : State}
      (hcase : HandleCase B { delivered (.ok len B) rest s with dResp := B } t) : StepCase s t

/-- A descriptor that `DECODE` calls INVALID (R192, R221). -/
theorem acceptStep_invalid {s : State} {d : OpDesc} (hdrain : d.opc ≠ Opc.drain) (hreq : requestOf s.cfg d = none) :
    acceptStep d s = acceptInvalid d s := by
  rw [acceptStep, if_neg hdrain, hreq]

/-- A descriptor that `DECODE` has a request for (R192, R221). -/
theorem acceptStep_request {s : State} {d : OpDesc} {fam : Family} {B : Packet} (hdrain : d.opc ≠ Opc.drain)
    (hreq : requestOf s.cfg d = some (fam, B)) : acceptStep d s = acceptRequest d fam B s := by
  rw [acceptStep, if_neg hdrain, hreq]

theorem acceptStep_drain {s : State} {d : OpDesc} (hdrain : d.opc = Opc.drain) : acceptStep d s = acceptDrain d s :=
  if_pos hdrain

theorem stepCase_accept {s : State} {d : OpDesc} {rest : List OpDesc} (hidle : s.dState = .idle)
    (hoffer : s.env.offers = d :: rest) : StepCase s (acceptStep d (withOffers rest s)) := by
  by_cases hdrain : d.opc = Opc.drain
  · rw [acceptStep_drain hdrain]
    exact .drainAccepted d rest hidle hoffer hdrain
  · cases hreq : requestOf s.cfg d with
    | none =>
      rw [acceptStep_invalid (s := withOffers rest s) hdrain hreq]
      exact .rejected d rest hidle hoffer hdrain hreq
    | some p =>
      rw [acceptStep_request (s := withOffers rest s) hdrain hreq]
      exact .accepted d rest p.1 p.2 hidle hoffer hdrain hreq

theorem stepCase_send {s : State} (hsend : s.dState = .send) : StepCase s (sendStep s) := by
  rcases sendStep_cases s with ⟨hin, h⟩ | ⟨rest, hin, h⟩ | ⟨e, rest, hin, h⟩ <;> rw [h]
  · exact .waits (.inr (.inl ⟨hsend, hin⟩))
  · exact .sent rest hsend hin
  · exact .sendFailed e rest hsend hin

theorem stepCase_receive {s : State} {out : RecvOutcome} {rest : List RecvOutcome} (hrecv : s.dState = .recv)
    (hin : s.env.recvs = out :: rest) : StepCase s (receiveStep out (delivered out rest s)) := by
  cases out with
  | terr e => exact .recvFailed e rest hrecv hin
  | ok len B =>
    by_cases hdrain : s.sOp.opc = Opc.drain
    · rw [receiveStep_drain (s := delivered (.ok len B) rest s) hdrain]
      exact .drained len B rest hrecv hin hdrain
    · by_cases hlen : len = s.cfg.respLen
      · rw [receiveStep_handle (s := delivered (.ok len B) rest s) hdrain hlen]
        exact .handled len B rest hrecv hin hdrain hlen (handleCase_handle ..)
      · rw [receiveStep_length (s := delivered (.ok len B) rest s) hdrain hlen]
        exact .wrongLength len B rest hrecv hin hdrain hlen

theorem stepCase_enabledStep (s : State) : StepCase s (enabledStep s) := by
  cases hst : s.dState with
  | idle =>
    cases hoffer : s.env.offers with
    | nil => rw [enabledStep_no_offer hst hoffer]; exact .waits (.inl ⟨hst, hoffer⟩)
    | cons d rest => rw [enabledStep_offer hst hoffer]; exact stepCase_accept hst hoffer
  | send => rw [enabledStep_send hst]; exact stepCase_send hst
  | recv =>
    cases hin : s.env.recvs with
    | nil => rw [enabledStep_no_response hst hin]; exact .waits (.inr (.inr ⟨hst, hin⟩))
    | cons out rest => rw [enabledStep_response hst hin]; exact stepCase_receive hst hin

/-- A step of a running machine is one of the cases. -/
theorem stepCase_of_step {s t : State} (hrun : running s) (h : step s = .next t) : StepCase s t := by
  rw [step_running hrun] at h
  cases h
  exact stepCase_enabledStep s

/-- A step that answers a state is the reset step, or one of the cases, once its reset input is taken (R350). -/
theorem step_cases {s t : State} (h : step s = .next t) :
    (∃ rest, t = resetStep (withResets rest s)) ∨ ∃ rest, StepCase (withResets rest s) t := by
  obtain ⟨-, rfl⟩ := ResetAndHazards.step_next_iff.mp h
  unfold nextState
  cases hr : s.env.resetIn with
  | nil =>
    have hsame : withResets [] s = s := by rw [withResets, ← hr]
    refine .inr ⟨[], ?_⟩
    rw [hsame]
    exact stepCase_enabledStep s
  | cons b rest =>
    cases b with
    | true => exact .inl ⟨rest, rfl⟩
    | false => exact .inr ⟨rest, stepCase_enabledStep _⟩

end Sys2Proof.Dispatcher
end

section
/-! Alternation, the busy block, the link and the retune registers, case by case of the step (20_memory.md R70,
42_dispatcher.md R196, R198, 44_retune_engine.md R300, R305): O52, O32, O58, O56 and O57. -/

namespace Sys2Proof.Dispatcher

open Machine Laws Encoding

/-! What no handler writes. -/

theorem HandleCase.keeps {B : Packet} {s t : State} (h : HandleCase B s t) :
    t.env = s.env ∧ t.sOp = s.sOp ∧ t.dLink = s.dLink ∧ t.rTs = s.rTs ∧ t.rKind = s.rKind := by
  cases h <;> exact ⟨rfl, rfl, rfl, rfl, rfl⟩

@[simp] theorem acceptRequest_env (d : OpDesc) (fam : Family) (B : Packet) (s : State) :
    (acceptRequest d fam B s).env = s.env := by
  rw [acceptRequest_eq]

/-! Strict alternation (R70, R357). -/

theorem linkInOrder_resetStep {s : State} (h : LinkInOrder s) : LinkInOrder (resetStep s) := ⟨h.1, fun _ => rfl⟩

/-- With no response awaited, and no event recorded, every control state is in order. -/
theorem linkInOrder_of_trace_eq {s t : State} (h : LinkInOrder s) (hidle : s.dState = .idle)
    (htrace : t.env.trace = s.env.trace) : LinkInOrder t := by
  obtain ⟨halt, hawait⟩ := h
  have hnone : awaitingResponse s.env.trace = false := hawait (by simp [hidle])
  exact ⟨htrace ▸ halt, fun _ => htrace ▸ hnone⟩

/-- Once `Recv` has returned, no response is awaited. -/
theorem linkInOrder_of_received {s t : State} {ep : BitVec 8} {out : RecvOutcome} (h : LinkInOrder s)
    (htrace : t.env.trace = .received ep out :: s.env.trace) : LinkInOrder t := by
  obtain ⟨halt, -⟩ := h
  exact ⟨htrace ▸ halt, fun _ => htrace ▸ rfl⟩

/-- `Send` is called where no response is awaited. -/
theorem alternates_sent {s : State} (h : LinkInOrder s) (hsend : s.dState = .send) (ep : BitVec 8) (B : Packet)
    (out : SendOutcome) : alternates (.sent ep B out :: s.env.trace) = true := by
  obtain ⟨halt, hawait⟩ := h
  have hnone : awaitingResponse s.env.trace = false := hawait (by simp [hsend])
  simp [alternates, halt, hnone]

theorem linkInOrder_of_stepCase {s t : State} (h : LinkInOrder s) (hcase : StepCase s t) : LinkInOrder t := by
  cases hcase with
  | waits => exact h
  | drainAccepted d rest hidle => exact linkInOrder_of_trace_eq h hidle rfl
  | rejected d rest hidle => exact linkInOrder_of_trace_eq h hidle rfl
  | accepted d rest fam B hidle => exact linkInOrder_of_trace_eq h hidle (by rw [acceptRequest_env]; rfl)
  | sent rest hsend => exact ⟨alternates_sent h hsend .., fun hnot => absurd rfl hnot⟩
  | sendFailed e rest hsend => exact ⟨alternates_sent h hsend .., fun _ => rfl⟩
  | recvFailed => exact linkInOrder_of_received h rfl
  | drained => exact linkInOrder_of_received h rfl
  | wrongLength => exact linkInOrder_of_received h rfl
  | handled len B rest hrecv hin hdrain hlen hhandled =>
    obtain ⟨henv, -⟩ := hhandled.keeps
    exact linkInOrder_of_received h (congrArg Env.trace henv)

/-- Settles O52: only the send step records a `Send`, from a state that awaits no response, and it alone leaves one awaited. -/
theorem everyStepKeepsAlternation : Obligations.EveryStepKeepsAlternation := by
  intro s t h hstep
  rcases step_cases hstep with ⟨rest, rfl⟩ | ⟨rest, hcase⟩
  · exact linkInOrder_resetStep (s := withResets rest s) h
  · exact linkInOrder_of_stepCase (s := withResets rest s) h hcase

/-! The busy block (R196, R202). -/

theorem stepCase_busy_keeps {s t : State} (hbusy : s.dState ≠ .idle) (hcase : StepCase s t) :
    t.env.offers = s.env.offers ∧ t.sOp = s.sOp := by
  cases hcase with
  | drainAccepted d rest hidle => exact absurd hidle hbusy
  | rejected d rest hidle => exact absurd hidle hbusy
  | accepted d rest fam B hidle => exact absurd hidle hbusy
  | handled len B rest hrecv hin hdrain hlen hhandled =>
    obtain ⟨henv, hop, -⟩ := hhandled.keeps
    exact ⟨by rw [henv]; rfl, hop⟩
  | waits | sent | sendFailed | recvFailed | drained | wrongLength => exact ⟨rfl, rfl⟩

theorem opReady_busy {s : State} (h : s.dState ≠ .idle) : opReady s = false := by
  rw [opReady, beq_eq_false_iff_ne]
  exact h

theorem enabledStep_waits {s : State}
    (h : (s.dState = .idle ∧ s.env.offers = []) ∨ (s.dState = .send ∧ s.env.sends = []) ∨
      (s.dState = .recv ∧ s.env.recvs = [])) : enabledStep s = s := by
  rcases h with ⟨hidle, hin⟩ | ⟨hsend, hin⟩ | ⟨hrecv, hin⟩
  · exact enabledStep_no_offer hidle hin
  · rw [enabledStep_send hsend, sendStep, hin]
  · exact enabledStep_no_response hrecv hin

/-- Settles O32: an operation row acts in `D_IDLE` only, and no step of a busy block accepts. -/
theorem busyBlockAcceptsNothing : Obligations.BusyBlockAcceptsNothing := by
  refine ⟨fun i s hop hbusy => ?_, fun s t hrun hbusy hstep => ?_, fun s hrun hwaits => ?_⟩
  · obtain ⟨d, himage⟩ := exists_op_of_isOperation hop
    exact ⟨opReady_busy hbusy, exec_op_busy himage hbusy⟩
  · exact stepCase_busy_keeps hbusy (stepCase_of_step hrun hstep)
  · rw [step_running hrun, enabledStep_waits hwaits]

/-! The link (R198). -/

/-- The operation ended by a transport error or a length error. -/
def LinkError (s t : State) : Prop :=
  s.dState ≠ .idle ∧ t.dState = .idle ∧
    (t.res.status = .transportError ∨ (t.res.status = .framingError ∧ 256 ≤ t.res.data.toNat))

/-- A `DRAIN` received a response. -/
def LinkDrained (s t : State) : Prop :=
  s.dState = .recv ∧ s.sOp.opc = 0x7F ∧ t.dState = .idle ∧ t.res.status = .ok

/-- How a step changes `d_link`. -/
def LinkRule (s t : State) : Prop :=
  (LinkError s t → t.dLink = .unsync) ∧ (LinkDrained s t → t.dLink = .sync) ∧
    (¬LinkError s t → ¬LinkDrained s t → t.dLink = s.dLink)

section
variable {s t : State}

theorem linkRule_unchanged (herr : ¬LinkError s t) (hdrained : ¬LinkDrained s t) (h : t.dLink = s.dLink) : LinkRule s t :=
  ⟨fun h' => absurd h' herr, fun h' => absurd h' hdrained, fun _ _ => h⟩

theorem linkRule_error (herr : LinkError s t) (hdrained : ¬LinkDrained s t) (h : t.dLink = .unsync) : LinkRule s t :=
  ⟨fun _ => h, fun h' => absurd h' hdrained, fun h' _ => absurd herr h'⟩

theorem linkRule_drained (herr : ¬LinkError s t) (hdrained : LinkDrained s t) (h : t.dLink = .sync) : LinkRule s t :=
  ⟨fun h' => absurd h' herr, fun _ => h, fun _ h' => absurd hdrained h'⟩

/-- The accept step ends no operation in flight. -/
theorem linkRule_idle (hidle : s.dState = .idle) (h : t.dLink = s.dLink) : LinkRule s t :=
  linkRule_unchanged (fun herr => herr.1 hidle) (fun hdrained => nomatch hidle.symm.trans hdrained.1) h

/-- A step that ends no operation is told by the control state. -/
theorem linkRule_busy (hbusy : t.dState ≠ .idle) (h : t.dLink = s.dLink) : LinkRule s t :=
  linkRule_unchanged (fun ⟨_, hidle, _⟩ => hbusy hidle) (fun ⟨_, _, hidle, _⟩ => hbusy hidle) h

theorem linkRule_transportFailed {u : State} (e : BitVec 8) (hbusy : s.dState ≠ .idle) :
    LinkRule s (transportFailed e u) :=
  linkRule_error ⟨hbusy, rfl, .inl rfl⟩ (fun ⟨_, _, _, hok⟩ => nomatch hok) rfl

theorem linkRule_lengthFailed {u : State} (len : BitVec 8) (hbusy : s.dState ≠ .idle) : LinkRule s (lengthFailed len u) := by
  have hlen : len.toNat < 256 := len.isLt
  have hinfo : 256 ≤ (lengthFailed len u).res.data.toNat := by
    rw [lengthFailed_eq_failedState]
    change 256 ≤ (256 + len.toNat) % 2 ^ 64
    omega
  exact linkRule_error ⟨hbusy, rfl, .inr ⟨rfl, hinfo⟩⟩ (fun ⟨_, _, _, hok⟩ => nomatch hok) rfl

theorem linkRule_drainDone {u : State} (hrecv : s.dState = .recv) (hop : s.sOp.opc = Opc.drain) :
    LinkRule s (drainDone u) :=
  linkRule_drained (fun ⟨_, _, herr⟩ => herr.elim nofun fun h => nomatch h.1) ⟨hrecv, hop, rfl, rfl⟩ rfl

/-- A handler's errors are none of the link's: a foreign magic is a byte, below every length info (R195, R323). -/
theorem HandleCase.not_linkError {B : Packet} {u : State} (h : HandleCase B u t) : ¬LinkError s t := by
  have hbyte : ((byteAt B 0).setWidth 64).toNat < 256 := by
    have hlt : (byteAt B 0).toNat < 256 := (byteAt B 0).isLt
    rw [BitVec.toNat_setWidth]
    omega
  rintro ⟨-, hidle, herr⟩
  cases h with
  | advanced => cases hidle
  | ended | retuneDone | retuneFailed | retuneFull => exact herr.elim nofun fun h => nomatch h.1
  | foreign | retuneForeign => exact herr.elim nofun fun h => absurd h.2 (Nat.not_le.mpr hbyte)
  | failed e info r hop he => rcases he with rfl | rfl <;> exact herr.elim nofun fun h => nomatch h.1

theorem linkRule_of_stepCase (hcase : StepCase s t) : LinkRule s t := by
  cases hcase with
  | waits =>
    refine linkRule_unchanged (fun ⟨hbusy, hidle, _⟩ => hbusy hidle) (fun ⟨hrecv, _, hidle, _⟩ => ?_) rfl
    exact nomatch hrecv.symm.trans hidle
  | drainAccepted d rest hidle => exact linkRule_idle hidle rfl
  | rejected d rest hidle => exact linkRule_idle hidle rfl
  | accepted d rest fam B hidle => exact linkRule_idle hidle (by rw [acceptRequest_eq]; rfl)
  | sent => exact linkRule_busy nofun rfl
  | sendFailed e rest hsend => exact linkRule_transportFailed e (by simp [hsend])
  | recvFailed e rest hrecv => exact linkRule_transportFailed e (by simp [hrecv])
  | drained len B rest hrecv hin hdrain => exact linkRule_drainDone hrecv hdrain
  | wrongLength len B rest hrecv => exact linkRule_lengthFailed len (by simp [hrecv])
  | handled len B rest hrecv hin hdrain hlen hhandled =>
    obtain ⟨-, -, hlink, -⟩ := hhandled.keeps
    exact linkRule_unchanged hhandled.not_linkError (fun ⟨_, hop, _⟩ => hdrain hop) hlink

end

/-- Settles O58: the two errors of the link and `DRAIN` are the ends of the receive and send steps that write it. -/
theorem linkChangesOnlyByItsRule : Obligations.LinkChangesOnlyByItsRule :=
  fun _ _ hrun hstep => linkRule_of_stepCase (stepCase_of_step hrun hstep)

end Sys2Proof.Dispatcher
end

section
/-! Coherence (10_state.md R30 to R39, 44_retune_engine.md R300, R309): O51. The request of an operation is a packet of the
operation's family, an ended operation leaves no retune scheduled, and the remaining steps carry the registers on. -/

namespace Sys2Proof.RetuneEngine

open Machine Laws Encoding WidthCodecs RetuneCodecs TargetMap Dispatcher

/-! The request of an operation: its family and its packet (R191, R221). -/

/-- A packet that a pack codec builds for a family. -/
def Canonical (fam : Family) (B : Packet) : Prop := byteAt B 0 = familyMagic fam ∧ ∃ i, encode i = .request B

/-- A pack of any operands is the image of the request row with the truncated operands. -/
theorem canonical_pack (c : WidthClass) (t : Nat) (w : Bool) (a d : Nat) : Canonical (.width c) (pack c t w a d) := by
  refine ⟨byteAt_pack_zero c t w a d, widthRequest c w (BitVec.ofNat 8 t) (BitVec.ofNat _ a) (BitVec.ofNat _ d), ?_⟩
  rw [encode_widthRequest, packTruncatesItsOperands c t a d w]
  simp only [BitVec.toNat_ofNat]

theorem canonical_retunePacket (ts : BitVec 64) (nint : BitVec 16) (nfrac : BitVec 32) (fb bb xb : Byte) :
    Canonical .retune (retunePacket ts nint nfrac fb bb xb) := by
  rw [retunePacket_eq_layoutRetune]
  exact ⟨rfl, .reqRetune ts (nint.extractLsb' 0 9) (nfrac.extractLsb' 0 23) fb bb xb, encode_reqRetune ..⟩

theorem canonical_retune2Packet (ts : BitVec 64) (np : BitVec 16) (rp pb sp : Byte) :
    Canonical .retune2 (retune2Packet ts np rp pb sp) := by
  rw [retune2Packet_eq_layoutRetune2]
  exact ⟨rfl, .reqRetune2 ts np rp pb sp, encode_reqRetune2 ..⟩

/-- A canonical packet of a width class. -/
def WidthPacket (fam : Family) (B : Packet) : Prop := Canonical fam B ∧ ∃ c, fam = .width c

theorem widthPacket_pack (c : WidthClass) (t : Nat) (w : Bool) (a d : Nat) : WidthPacket (.width c) (pack c t w a d) :=
  ⟨canonical_pack c t w a d, c, rfl⟩

theorem widthPacket_generic (c : WidthClass) (o : OpFields) : RequestSatisfies WidthPacket (genericRequest c o) :=
  requestSatisfies_some (widthPacket_pack ..)

theorem widthPacket_trig (cfg : Cfg) (w : Bool) (d : Nat) (o : OpFields) :
    RequestSatisfies WidthPacket (trigRequest cfg w d o) := by
  unfold trigRequest
  split
  · exact requestSatisfies_some (widthPacket_pack ..)
  · exact requestSatisfies_none

/-- Every operation but the retunes has a request of a width class: a row of the target map, or one of the other codes. -/
theorem requestOf_width {cfg : Cfg} {d : OpDesc} (hop : retuneOpc d.opc = false) :
    RequestSatisfies WidthPacket (requestOf cfg d) := by
  obtain ⟨opc, o⟩ := d
  by_cases hknown : opc ∈ operationCodes
  · rcases operationCodes_cases hknown with ⟨r, hr, rfl⟩ | hother
    · rw [requestOf_mapRow hr]
      exact widthPacket_generic r.cls _
    · simp only [unmappedCodes, List.mem_cons, List.not_mem_nil, or_false] at hother
      rcases hother with rfl | rfl | rfl | rfl | rfl | rfl | rfl | rfl | rfl | rfl | rfl | rfl | rfl | rfl | rfl | rfl
      · exact widthPacket_generic .c8x8 o
      · exact widthPacket_generic .c8x16 o
      · exact widthPacket_generic .c8x32 o
      · exact widthPacket_generic .c16x64 o
      · exact widthPacket_generic .c32x32 o
      · exact requestSatisfies_some (widthPacket_pack ..)
      · exact requestSatisfies_ite (widthPacket_pack ..)
      · exact widthPacket_trig cfg false 0 o
      · exact widthPacket_trig cfg true o.data.toNat o
      · exact requestSatisfies_ite (widthPacket_pack ..)
      · exact requestSatisfies_ite (widthPacket_pack ..)
      · exact requestSatisfies_some (widthPacket_pack ..)
      · exact requestSatisfies_some (widthPacket_pack ..)
      · cases hop
      · cases hop
      · exact requestSatisfies_none
  · rw [requestOf_unknown hknown]
    exact requestSatisfies_none

theorem requestOf_retune {cfg : Cfg} {d : OpDesc} (hop : d.opc = 0x70) :
    RequestSatisfies (fun fam B => Canonical fam B ∧ fam = .retune) (requestOf cfg d) := by
  obtain ⟨opc, o⟩ := d
  cases hop
  exact requestSatisfies_ite (P := fun fam B => Canonical fam B ∧ fam = .retune) ⟨canonical_retunePacket .., rfl⟩

theorem requestOf_retune2 {cfg : Cfg} {d : OpDesc} (hop : d.opc = 0x71) :
    RequestSatisfies (fun fam B => Canonical fam B ∧ fam = .retune2) (requestOf cfg d) := by
  obtain ⟨opc, o⟩ := d
  cases hop
  exact requestSatisfies_ite (P := fun fam B => Canonical fam B ∧ fam = .retune2) ⟨canonical_retune2Packet .., rfl⟩

theorem retuneOpc_cases (opc : BitVec 8) :
    opc = 0x70 ∨ opc = 0x71 ∨ (retuneOpc opc = false ∧ opc ≠ 0x70 ∧ opc ≠ 0x71) := by
  by_cases h70 : opc = 0x70
  · exact .inl h70
  · by_cases h71 : opc = 0x71
    · exact .inr (.inl h71)
    · exact .inr (.inr ⟨by rw [retuneOpc, beq_false_of_ne h70, beq_false_of_ne h71]; rfl, h70, h71⟩)

/-- The request of an operation is canonical, and of a retune family exactly where the operation is that retune (R113). -/
theorem requestOf_family {cfg : Cfg} {d : OpDesc} {fam : Family} {B : Packet} (h : requestOf cfg d = some (fam, B)) :
    Canonical fam B ∧ (fam = .retune ↔ d.opc = 0x70) ∧ (fam = .retune2 ↔ d.opc = 0x71) := by
  rcases retuneOpc_cases d.opc with hop | hop | ⟨hop, h70, h71⟩
  · obtain ⟨hcanon, rfl⟩ := requestOf_retune hop fam B h
    simp [hcanon, hop]
  · obtain ⟨hcanon, rfl⟩ := requestOf_retune2 hop fam B h
    simp [hcanon, hop]
  · obtain ⟨hcanon, c, rfl⟩ := requestOf_width hop fam B h
    exact ⟨hcanon, iff_of_false nofun h70, iff_of_false nofun h71⟩

/-- Request `k` of the sequencer is the format (R94, R247). -/
theorem agcRequest_eq_layout8x16 (o : OpFields) (k : Fin 6) :
    agcRequest o k = layout8x16 2 1 (BitVec.ofNat 8 k.val) o.agc[k] := by
  obtain ⟨-, h8x16, -⟩ := packLaysOutEveryClass.1 2 k.val o.agc[k].toNat true
  rw [BitVec.ofNat_toNat, BitVec.setWidth_eq] at h8x16
  exact h8x16

/-! A coherent state in flight: what the family says of the operation, and the operation of `r_state` (R300). -/

section
variable {s : State} (hc : Coherent s)
include hc

theorem not_scheduled_of_idle (hidle : s.dState = .idle) : s.rState ≠ .scheduled :=
  fun h => (hc.scheduled_iff.mp h).1 hidle

theorem not_scheduled_of_not_retune (hop : retuneOpc s.sOp.opc = false) : s.rState ≠ .scheduled :=
  fun h => nomatch hop.symm.trans (hc.scheduled_iff.mp h).2

theorem retuneOpc_of_retuneFamily (hbusy : s.dState ≠ .idle) (hdrain : s.sOp.opc ≠ Opc.drain)
    (hfam : RetuneFamily s.sFam) : retuneOpc s.sOp.opc = true := by
  obtain ⟨h70, h71⟩ := hc.family_of_op hbusy hdrain
  rcases hfam with hf | hf
  · rw [h70.mp hf]; rfl
  · rw [h71.mp hf]; rfl

theorem not_retune_of_noRetuneHandler (hbusy : s.dState ≠ .idle) (hdrain : s.sOp.opc ≠ Opc.drain)
    (hop : NoRetuneHandler s) : retuneOpc s.sOp.opc = false := by
  rcases hop with hagc | ⟨c, hfam⟩
  · rw [hagc]; rfl
  · obtain ⟨h70, h71⟩ := hc.family_of_op hbusy hdrain
    rw [hfam] at h70 h71
    rcases retuneOpc_cases s.sOp.opc with hop | hop | ⟨hop, -⟩
    · exact nomatch h70.mpr hop
    · exact nomatch h71.mpr hop
    · exact hop

end

/-! Ending an operation. -/

/-- An ended operation leaves a coherent state, where it leaves no retune scheduled and the index as it must be. -/
theorem coherent_finish {s : State} (r : Result) (hsched : s.rState ≠ .scheduled) (hidx : s.sOp.opc ≠ 0x34 → s.sIdx = 0) :
    Coherent (finish r s) where
  busy_no_result := fun hbusy => absurd rfl hbusy
  scheduled_iff := ⟨fun h => absurd h hsched, fun h => absurd rfl h.1⟩
  retune_in_flight := fun h => absurd h hsched
  family_of_op := fun hbusy => absurd rfl hbusy
  idle_copies := fun _ => ⟨rfl, rfl⟩
  idx_zero := hidx
  agc_in_flight := fun hbusy => absurd rfl hbusy
  request_canonical := nofun

/-- Raising an error leaves no retune scheduled: the error is one that leaves `R_ERR`, or the handler has settled it before. -/
theorem coherent_raise {s : State} {e : Status} {info : BitVec 64} {r : Result}
    (hsched : s.rState ≠ .scheduled ∨ (leavesRetuneUnknown e = true ∧ (retuneOpc s.sOp.opc = false → s.rState ≠ .scheduled)))
    (hidx : s.sOp.opc ≠ 0x34 → s.sIdx = 0) : Coherent (raise e info r s) := by
  refine coherent_finish _ ?_ hidx
  dsimp only
  split
  · nofun
  · next hknown =>
    rcases hsched with h | ⟨he, h⟩
    · exact h
    · exact h (Bool.eq_false_iff.mpr fun hop => hknown ⟨hop, he⟩)

section
variable {s : State} (hc : Coherent s)
include hc

theorem coherent_transportFailed {u : State} (hrs : u.rState = s.rState) (hop : u.sOp = s.sOp) (hidx : u.sIdx = s.sIdx)
    (e : BitVec 8) : Coherent (transportFailed e u) := by
  refine coherent_raise (.inr ⟨rfl, fun hplain => ?_⟩) fun hagc => ?_
  · exact hrs ▸ not_scheduled_of_not_retune hc (hop ▸ hplain)
  · exact hidx.trans (hc.idx_zero (hop ▸ hagc))

theorem coherent_acceptInvalid {rest : List OpDesc} (hidle : s.dState = .idle) (d : OpDesc) :
    Coherent (acceptInvalid d (withOffers rest s)) :=
  have hnone : s.rState ≠ .scheduled := not_scheduled_of_idle hc hidle
  coherent_raise (.inl hnone) fun _ => rfl

end

/-! Accepting an operation (R192, R201, R301). -/

section
variable {s : State} {d : OpDesc} {rest : List OpDesc} (hc : Coherent s) (hidle : s.dState = .idle)
include hc hidle

theorem coherent_acceptDrain (hdrain : d.opc = Opc.drain) : Coherent (acceptDrain d (withOffers rest s)) := by
  have hnone : s.rState ≠ .scheduled := not_scheduled_of_idle hc hidle
  have hplain : retuneOpc d.opc = false := by rw [hdrain]; rfl
  exact ⟨fun _ => rfl, iff_of_false hnone fun h => (nomatch hplain.symm.trans h.2), fun h => absurd h hnone,
    fun _ hop => absurd hdrain hop, nofun, fun _ => rfl, fun _ hagc => (nomatch hdrain.symm.trans hagc), nofun⟩

theorem coherent_acceptRequest {cfg : Cfg} {fam : Family} {B : Packet} (hdrain : d.opc ≠ Opc.drain)
    (hreq : requestOf cfg d = some (fam, B)) : Coherent (acceptRequest d fam B (withOffers rest s)) := by
  obtain ⟨hcanon, h70, h71⟩ := requestOf_family hreq
  have hnone : s.rState ≠ .scheduled := not_scheduled_of_idle hc hidle
  have hsched : (if isRetuneOpc d.opc then RState.scheduled else s.rState) = .scheduled ↔ retuneOpc d.opc = true := by
    split
    · next hop => exact iff_of_true rfl hop
    · next hop => exact iff_of_false hnone hop
  rw [acceptRequest_eq]
  refine ⟨fun _ => rfl, ?_, ?_, fun _ _ => ⟨h70, h71⟩, nofun, fun _ => rfl, ?_, fun _ => ⟨hdrain, hcanon⟩⟩
  · exact hsched.trans ⟨fun hop => ⟨nofun, hop⟩, fun h => h.2⟩
  · intro h
    have hop : isRetuneOpc d.opc = true := hsched.mp h
    simp only [hop, if_true, true_and]
    rcases retuneOpc_cases d.opc with h' | h' | ⟨h', -⟩
    · exact .inl ⟨h', if_neg (by rw [h']; decide), h70.mpr h'⟩
    · exact .inr ⟨h', if_pos h', h71.mpr h'⟩
    · exact nomatch h'.symm.trans hop
  · intro _ hagc
    obtain ⟨opc, o⟩ := d
    cases hagc
    cases hreq
    exact ⟨rfl, agcRequest_eq_layout8x16 o 0⟩

end

/-! Sending, and the sequencer's next request (R193, R247). -/

theorem coherent_sent {s : State} (hc : Coherent s) (hsend : s.dState = .send) (rest : List SendOutcome) :
    Coherent { handedOver .ok rest s with dState := .recv } := by
  have hbusy : s.dState ≠ .idle := by simp [hsend]
  exact ⟨fun _ => hc.busy_no_result hbusy,
    hc.scheduled_iff.trans ⟨fun h => ⟨nofun, h.2⟩, fun h => ⟨hbusy, h.2⟩⟩,
    hc.retune_in_flight, fun _ => hc.family_of_op hbusy, nofun, hc.idx_zero, fun _ => hc.agc_in_flight hbusy, nofun⟩

theorem coherent_advanced {s : State} (hc : Coherent s) (hbusy : s.dState ≠ .idle) (hagc : s.sOp.opc = Opc.agcDcWrite)
    (k : Fin 6) : Coherent { s with sIdx := k, dReq := agcRequest s.sOp.fields k, dState := .send } := by
  have hop : s.sOp.opc = 0x34 := hagc
  have hdrain : s.sOp.opc ≠ 0x7F := by rw [hop]; decide
  obtain ⟨hfam, -⟩ := hc.agc_in_flight hbusy hop
  have hcanon : Canonical s.sFam (agcRequest s.sOp.fields k) := by
    rw [hfam]
    exact canonical_pack ..
  exact ⟨fun _ => hc.busy_no_result hbusy,
    hc.scheduled_iff.trans ⟨fun h => ⟨nofun, h.2⟩, fun h => ⟨hbusy, h.2⟩⟩,
    hc.retune_in_flight, fun _ => hc.family_of_op hbusy, nofun, fun h => absurd hop h,
    fun _ _ => ⟨hfam, agcRequest_eq_layout8x16 ..⟩, fun _ => ⟨hdrain, hcanon⟩⟩

/-! The handlers. -/

theorem coherent_of_handleCase {s t : State} {B : Packet} (hc : Coherent s) (hbusy : s.dState ≠ .idle)
    (hdrain : s.sOp.opc ≠ Opc.drain) (hcase : HandleCase B s t) : Coherent t := by
  have hplain : NoRetuneHandler s → s.rState ≠ .scheduled := fun hop =>
    not_scheduled_of_not_retune hc (not_retune_of_noRetuneHandler hc hbusy hdrain hop)
  cases hcase with
  | advanced k hagc => exact coherent_advanced hc hbusy hagc k
  | ended r hop => exact coherent_finish _ (hplain hop) hc.idx_zero
  | foreign hop => exact coherent_raise (.inl (hplain hop)) hc.idx_zero
  | failed e info r hop => exact coherent_raise (.inl (hplain hop)) hc.idx_zero
  | retuneForeign => exact coherent_raise (.inl nofun) hc.idx_zero
  | retuneDone => exact coherent_finish _ nofun hc.idx_zero
  | retuneFailed => exact coherent_raise (.inl nofun) hc.idx_zero
  | retuneFull => exact coherent_raise (.inl nofun) hc.idx_zero

/-- Coherence looks at neither the inputs nor `d_resp`. -/
theorem coherent_delivered {s : State} (hc : Coherent s) (out : RecvOutcome) (rest : List RecvOutcome) (B : Packet) :
    Coherent { delivered out rest s with dResp := B } :=
  ⟨hc.busy_no_result, hc.scheduled_iff, hc.retune_in_flight, hc.family_of_op, hc.idle_copies, hc.idx_zero, hc.agc_in_flight,
    hc.request_canonical⟩

theorem coherent_withResets {s : State} (hc : Coherent s) (rest : List Bool) : Coherent (withResets rest s) :=
  ⟨hc.busy_no_result, hc.scheduled_iff, hc.retune_in_flight, hc.family_of_op, hc.idle_copies, hc.idx_zero, hc.agc_in_flight,
    hc.request_canonical⟩

theorem coherent_resetStep (s : State) : Coherent (resetStep s) :=
  coherent_clearRegisters { s with env := { s.env with trace := .reset :: s.env.trace } }

/-- The enabled step keeps coherence, case by case. -/
theorem coherent_of_stepCase {s t : State} (hc : Coherent s) (hcase : StepCase s t) : Coherent t := by
  cases hcase with
  | waits => exact hc
  | drainAccepted d rest hidle hoffer hdrain => exact coherent_acceptDrain hc hidle hdrain
  | rejected d rest hidle => exact coherent_acceptInvalid hc hidle d
  | accepted d rest fam B hidle hoffer hdrain hreq => exact coherent_acceptRequest hc hidle hdrain hreq
  | sent rest hsend => exact coherent_sent hc hsend rest
  | sendFailed e rest => exact coherent_transportFailed (u := handedOver (.terr e) rest s) hc rfl rfl rfl e
  | recvFailed e rest => exact coherent_transportFailed (u := delivered (.terr e) rest s) hc rfl rfl rfl e
  | drained len B rest hrecv hin hdrain =>
    have hnone : s.rState ≠ .scheduled := not_scheduled_of_not_retune hc (by rw [hdrain]; rfl)
    exact coherent_finish _ hnone hc.idx_zero
  | wrongLength len B rest =>
    have hnone : retuneOpc s.sOp.opc = false → s.rState ≠ .scheduled := not_scheduled_of_not_retune hc
    exact coherent_raise (.inr ⟨rfl, hnone⟩) hc.idx_zero
  | handled len B rest hrecv hin hdrain hlen hhandled =>
    have hbusy : s.dState ≠ .idle := by simp [hrecv]
    exact coherent_of_handleCase (coherent_delivered hc _ rest B) hbusy hdrain hhandled

/-- Settles O51. -/
theorem everyStepKeepsCoherence : Obligations.EveryStepKeepsCoherence := by
  intro s t hc hstep
  rcases step_cases hstep with ⟨rest, rfl⟩ | ⟨rest, hcase⟩
  · exact coherent_resetStep _
  · exact coherent_of_stepCase (coherent_withResets hc rest) hcase

end Sys2Proof.RetuneEngine
end

section
/-! The retune registers, case by case of the step (44_retune_engine.md R300, R303 to R305): O56 and O57. -/

namespace Sys2Proof.RetuneEngine

open Machine Laws Encoding Dispatcher

/-! `r_state` after the errors that end an operation (R304, R321). -/

/-- An error in an operation that is no retune leaves `r_state`. -/
theorem raise_rState_of_not_retune {s : State} (hop : retuneOpc s.sOp.opc = false) (e : Status) (info : BitVec 64)
    (r : Result) : (raise e info r s).rState = s.rState :=
  if_neg fun ⟨h, _⟩ => nomatch hop.symm.trans h

/-- An error of R304 in a retune. -/
theorem raise_rState_unknown {s : State} {e : Status} (hop : retuneOpc s.sOp.opc = true)
    (he : leavesRetuneUnknown e = true) (info : BitVec 64) (r : Result) : (raise e info r s).rState = .err :=
  if_pos ⟨hop, he⟩

/-- An error that tells the retune's outcome leaves `r_state` as the handler has written it. -/
theorem raise_rState_known {s : State} {e : Status} (he : leavesRetuneUnknown e = false) (info : BitVec 64) (r : Result) :
    (raise e info r s).rState = s.rState :=
  if_neg fun ⟨_, h⟩ => nomatch he.symm.trans h

/-! The moves of the table, each from the case that makes it (R300). -/

section
variable {s t : State}

theorem retuneMove_unchanged (h : t.rState = s.rState) : retuneMove s t := .inl h

theorem retuneMove_transportFailed {u : State} (hc : Coherent s) (hbusy : s.dState ≠ .idle) (hrs : u.rState = s.rState)
    (hop : u.sOp = s.sOp) (e : BitVec 8) : retuneMove s (transportFailed e u) := by
  cases hretune : retuneOpc s.sOp.opc with
  | false => exact retuneMove_unchanged ((raise_rState_of_not_retune (hop ▸ hretune) ..).trans hrs)
  | true =>
    exact .inr (.inr (.inr (.inr (.inr (.inr (.inl
      ⟨hc.scheduled_iff.mpr ⟨hbusy, hretune⟩, hbusy, raise_rState_unknown (hop ▸ hretune) rfl .., rfl⟩))))))

theorem retuneMove_framingError (hsched : s.rState = .scheduled) (hrecv : s.dState = .recv) (herr : t.rState = .err)
    (hst : t.res.status = .framingError) : retuneMove s t :=
  .inr (.inr (.inr (.inr (.inr (.inr (.inr ⟨hsched, hrecv, herr, hst⟩))))))

theorem retuneMove_lengthFailed {u : State} (hc : Coherent s) (hrecv : s.dState = .recv) (hrs : u.rState = s.rState)
    (hop : u.sOp = s.sOp) (len : BitVec 8) : retuneMove s (lengthFailed len u) := by
  have hbusy : s.dState ≠ .idle := by simp [hrecv]
  cases hretune : retuneOpc s.sOp.opc with
  | false => exact retuneMove_unchanged ((raise_rState_of_not_retune (hop ▸ hretune) ..).trans hrs)
  | true =>
    exact retuneMove_framingError (hc.scheduled_iff.mpr ⟨hbusy, hretune⟩) hrecv
      (raise_rState_unknown (hop ▸ hretune) rfl ..) rfl

theorem retuneMove_acceptInvalid {u : State} (hidle : s.dState = .idle) (hrs : u.rState = s.rState) (d : OpDesc) :
    retuneMove s (acceptInvalid d u) := by
  cases hretune : retuneOpc d.opc with
  | false => exact retuneMove_unchanged ((raise_rState_of_not_retune (s := latch d u) hretune ..).trans hrs)
  | true =>
    exact .inr (.inr (.inl ⟨raise_rState_unknown (s := latch d u) hretune rfl .., hidle, hretune, rfl⟩))

theorem retuneMove_acceptRequest {u : State} (hidle : s.dState = .idle) (hrs : u.rState = s.rState) (d : OpDesc)
    (fam : Family) (B : Packet) : retuneMove s (acceptRequest d fam B u) := by
  rw [acceptRequest_eq]
  cases hretune : isRetuneOpc d.opc with
  | false => exact retuneMove_unchanged hrs
  | true => exact .inr (.inl ⟨rfl, hidle, hretune⟩)

/-- The handlers: only the retune handler writes `r_state`, and it runs with a retune scheduled. -/
theorem retuneMove_of_handleCase {B : Packet} {out : RecvOutcome} {rest : List RecvOutcome} (hc : Coherent s)
    (hrecv : s.dState = .recv) (hdrain : s.sOp.opc ≠ Opc.drain)
    (hcase : HandleCase B { delivered out rest s with dResp := B } t) : retuneMove s t := by
  have hbusy : s.dState ≠ .idle := by simp [hrecv]
  have hplain : NoRetuneHandler s → retuneOpc s.sOp.opc = false := not_retune_of_noRetuneHandler hc hbusy hdrain
  have hraise : NoRetuneHandler s → ∀ e info r, (raise e info r { delivered out rest s with dResp := B }).rState = s.rState :=
    fun hop => raise_rState_of_not_retune (s := { delivered out rest s with dResp := B }) (hplain hop)
  have hsched : RetuneFamily s.sFam → s.rState = .scheduled := fun hfam =>
    hc.scheduled_iff.mpr ⟨hbusy, retuneOpc_of_retuneFamily hc hbusy hdrain hfam⟩
  cases hcase with
  | advanced => exact retuneMove_unchanged rfl
  | ended => exact retuneMove_unchanged rfl
  | foreign hop => exact retuneMove_unchanged (hraise hop ..)
  | failed e info r hop => exact retuneMove_unchanged (hraise hop e info r)
  | retuneForeign hfam => exact retuneMove_framingError (hsched hfam) hrecv (ite_self _) rfl
  | retuneDone r hfam => exact .inr (.inr (.inr (.inl ⟨hsched hfam, hrecv, rfl, rfl⟩)))
  | retuneFailed r hfam hts =>
    exact .inr (.inr (.inr (.inr (.inl ⟨hsched hfam, hrecv, raise_rState_known rfl .., hts, rfl⟩))))
  | retuneFull r hfam hts =>
    exact .inr (.inr (.inr (.inr (.inr (.inl ⟨hsched hfam, hrecv, raise_rState_known rfl .., hts, rfl⟩)))))

theorem retuneMove_of_stepCase (hc : Coherent s) (hcase : StepCase s t) : retuneMove s t := by
  cases hcase with
  | waits => exact retuneMove_unchanged rfl
  | drainAccepted => exact retuneMove_unchanged rfl
  | rejected d rest hidle => exact retuneMove_acceptInvalid (u := withOffers rest s) hidle rfl d
  | accepted d rest fam B hidle => exact retuneMove_acceptRequest (u := withOffers rest s) hidle rfl d fam B
  | sent => exact retuneMove_unchanged rfl
  | sendFailed e rest hsend =>
    exact retuneMove_transportFailed (u := handedOver (.terr e) rest s) hc (by simp [hsend]) rfl rfl e
  | recvFailed e rest hrecv =>
    exact retuneMove_transportFailed (u := delivered (.terr e) rest s) hc (by simp [hrecv]) rfl rfl e
  | drained => exact retuneMove_unchanged rfl
  | wrongLength len B rest hrecv =>
    exact retuneMove_lengthFailed (u := delivered (.ok len B) rest s) hc hrecv rfl rfl len
  | handled len B rest hrecv hin hdrain hlen hhandled => exact retuneMove_of_handleCase hc hrecv hdrain hhandled

end

/-- Settles O56. -/
theorem retuneStateMovesByItsTable : Obligations.RetuneStateMovesByItsTable :=
  fun _ _ hc hrun hstep => retuneMove_of_stepCase hc (stepCase_of_step hrun hstep)

/-! Operations other than a retune (R305). -/

/-- The retune registers are as before. -/
def RetuneRegistersKept (s t : State) : Prop := t.rState = s.rState ∧ t.rTs = s.rTs ∧ t.rKind = s.rKind

section
variable {s t : State}

theorem retuneRegistersKept_of_handleCase {B : Packet} {out : RecvOutcome} {rest : List RecvOutcome} (hc : Coherent s)
    (hbusy : s.dState ≠ .idle) (hdrain : s.sOp.opc ≠ Opc.drain) (hop : retuneOpc s.sOp.opc = false)
    (hcase : HandleCase B { delivered out rest s with dResp := B } t) : RetuneRegistersKept s t := by
  have hnone : ¬RetuneFamily s.sFam := fun hfam =>
    nomatch hop.symm.trans (retuneOpc_of_retuneFamily hc hbusy hdrain hfam)
  have hraise : ∀ e info r, (raise e info r { delivered out rest s with dResp := B }).rState = s.rState :=
    raise_rState_of_not_retune (s := { delivered out rest s with dResp := B }) hop
  cases hcase with
  | advanced => exact ⟨rfl, rfl, rfl⟩
  | ended => exact ⟨rfl, rfl, rfl⟩
  | foreign => exact ⟨hraise .., rfl, rfl⟩
  | failed e info r => exact ⟨hraise e info r, rfl, rfl⟩
  | retuneForeign hfam => exact absurd hfam hnone
  | retuneDone r hfam => exact absurd hfam hnone
  | retuneFailed r hfam => exact absurd hfam hnone
  | retuneFull r hfam => exact absurd hfam hnone

theorem retuneRegistersKept_of_stepCase (hc : Coherent s) (hcase : StepCase s t) (hop : retuneOpc t.sOp.opc = false) :
    RetuneRegistersKept s t := by
  cases hcase with
  | waits | drainAccepted | sent | drained => exact ⟨rfl, rfl, rfl⟩
  | rejected d rest => exact ⟨raise_rState_of_not_retune (s := latch d (withOffers rest s)) hop .., rfl, rfl⟩
  | accepted d rest fam B =>
    rw [acceptRequest_eq] at hop ⊢
    have hplain : isRetuneOpc d.opc = false := hop
    simp only [hplain]
    exact ⟨rfl, rfl, rfl⟩
  | sendFailed e rest =>
    exact ⟨raise_rState_of_not_retune (s := { handedOver (.terr e) rest s with dLink := .unsync }) hop .., rfl, rfl⟩
  | recvFailed e rest =>
    exact ⟨raise_rState_of_not_retune (s := { delivered (.terr e) rest s with dLink := .unsync }) hop .., rfl, rfl⟩
  | wrongLength len B rest =>
    exact ⟨raise_rState_of_not_retune (s := { delivered (.ok len B) rest s with dLink := .unsync }) hop .., rfl, rfl⟩
  | handled len B rest hrecv hin hdrain hlen hhandled =>
    obtain ⟨-, hsame, -⟩ := hhandled.keeps
    rw [hsame] at hop
    exact retuneRegistersKept_of_handleCase hc (by simp [hrecv]) hdrain hop hhandled

end

/-- Settles O57. -/
theorem otherOperationsKeepTheRetuneRegisters : Obligations.OtherOperationsKeepTheRetuneRegisters :=
  fun _ _ hc hrun hstep hop => retuneRegistersKept_of_stepCase hc (stepCase_of_step hrun hstep) hop

end Sys2Proof.RetuneEngine
end

section
/-! The receive step of the width-class operations (43_target_map.md R222, R234, R247, R251, R264, R266): O44 to O49. A response
with its own magic either fails on its success bit or is handed to the post-processing of the operation. -/

namespace Sys2Proof.TargetMap

open Machine Laws Encoding WidthCodecs RetuneEngine

/-! `HANDLE_WC` on a response with the magic of the class, told by the states of Safety.lean (R222). -/

/-- The result of a response whose success bit is clear (R328). -/
def failedResult (B : Packet) : Result :=
  { status := .operationFailed, data := (byteAt B 2).setWidth 64, write := bit0 (byteAt B 2) }

/-- What a response writes to the result registers before its post-processing: its two flag bits (R222). -/
def flagsResult (B : Packet) : Result := { write := bit0 (byteAt B 2), flag1 := bit1 (byteAt B 2) }

/-- The success bit of a class that defines it is clear (R133). -/
def FailureFlagged (c : WidthClass) (B : Packet) : Prop := definesSuccess c = true ∧ bit1 (byteAt B 2) = false

section
variable {c : WidthClass} {B : Packet} {s : State}

/-- An error that is none of R304's, in an operation other than `AGC_DC_WRITE`. -/
theorem raise_eq_endedState {e : Status} (he : leavesRetuneUnknown e = false) (hagc : s.sOp.opc ≠ Opc.agcDcWrite)
    (info : BitVec 64) (r : Result) : raise e info r s = endedState { r with status := e, data := info } s := by
  rw [raise_known (.inr he), if_neg hagc]
  rfl

/-- What is left of `HANDLE_WC` once the magic is the class's own. -/
theorem handleWidth_own_cases (hm : byteAt B 0 = widthMagic c) :
    (FailureFlagged c B ∧
        handleWidth c B s = raise .operationFailed ((byteAt B 2).setWidth 64) { write := bit0 (byteAt B 2) } s) ∨
      (¬FailureFlagged c B ∧
        ((∃ v, post s.sOp (dataOf c B) (flagsResult B) = .error v ∧
            handleWidth c B s = raise .unexpectedValue v (flagsResult B) s) ∨
          ∃ r, post s.sOp (dataOf c B) (flagsResult B) = .ok r ∧ handleWidth c B s = endOk r s)) := by
  have hcases := handleWidth_cases c B s
  rw [dataField_eq_dataOf] at hcases
  obtain ⟨hforeign, -⟩ | ⟨-, ⟨hd, hf, h⟩ | hok⟩ := hcases
  · exact absurd hm hforeign
  · exact .inl ⟨⟨hd, hf⟩, h⟩
  · exact .inr hok

theorem handleWidth_failed (hm : byteAt B 0 = widthMagic c) (hf : FailureFlagged c B) (hagc : s.sOp.opc ≠ Opc.agcDcWrite) :
    handleWidth c B s = endedState (failedResult B) s := by
  obtain ⟨-, h⟩ | ⟨hok, -⟩ := handleWidth_own_cases (s := s) hm
  · rw [h, raise_eq_endedState rfl hagc]
    rfl
  · exact absurd hf hok

theorem handleWidth_ok (hm : byteAt B 0 = widthMagic c) (hf : ¬FailureFlagged c B) {r : Result}
    (hpost : post s.sOp (dataOf c B) (flagsResult B) = .ok r) :
    handleWidth c B s = endedState { r with status := .ok } s := by
  obtain ⟨hfail, -⟩ | ⟨-, ⟨v, hp, -⟩ | ⟨r', hp, h⟩⟩ := handleWidth_own_cases (s := s) hm
  · exact absurd hfail hf
  · exact nomatch hpost.symm.trans hp
  · cases hpost.symm.trans hp
    exact h

theorem handleWidth_unexpected (hm : byteAt B 0 = widthMagic c) (hf : ¬FailureFlagged c B)
    (hagc : s.sOp.opc ≠ Opc.agcDcWrite) {v : BitVec 64} (hpost : post s.sOp (dataOf c B) (flagsResult B) = .error v) :
    handleWidth c B s = endedState { flagsResult B with status := .unexpectedValue, data := v } s := by
  obtain ⟨hfail, -⟩ | ⟨-, ⟨v', hp, h⟩ | ⟨r, hp, -⟩⟩ := handleWidth_own_cases (s := s) hm
  · exact absurd hfail hf
  · cases hpost.symm.trans hp
    exact h.trans (raise_eq_endedState rfl hagc ..)
  · exact nomatch hpost.symm.trans hp

/-- With the success bit set, or in a class that has none, a response does not fail. -/
theorem not_failureFlagged_of_bit1 (h : bit1 (byteAt B 2) = true) : ¬FailureFlagged c B :=
  fun ⟨_, hf⟩ => nomatch h.symm.trans hf

theorem not_failureFlagged_of_narrow (h : definesSuccess c = false) : ¬FailureFlagged c B :=
  fun ⟨hd, _⟩ => nomatch h.symm.trans hd

theorem flagsResult_of_bit1 (h : bit1 (byteAt B 2) = true) :
    flagsResult B = { write := bit0 (byteAt B 2), flag1 := true } := by
  rw [flagsResult, h]

/-- A response row of the class in flight goes to `HANDLE_WC` (R194). -/
theorem exec_response_width {i : Instr} (himage : encode i = .response B) (hrecv : s.dState = .recv)
    (hfam : s.sFam = .width c) (hagc : s.sOp.opc ≠ Opc.agcDcWrite) (hdrain : s.sOp.opc ≠ Opc.drain) :
    exec i s = .next (handleWidth c B { s with dResp := B }) := by
  rw [exec_of_response himage, receive_receiving hrecv, takeResponse_handle hdrain,
    handle_width (s := { s with dResp := B }) hagc hfam]

end

/-! The plain operations (R222). -/

theorem plainOpc_iff {opc : BitVec 8} :
    plainOpc opc = true ↔ opc ≠ Opc.tamerGet ∧ opc ≠ Opc.agcDcWrite ∧ opc ≠ Opc.fpgaVersionRead ∧ opc ≠ Opc.expgpioRead ∧
      opc ≠ Opc.expgpioDirRead ∧ opc ≠ Opc.drain := by
  simp [plainOpc, Opc.tamerGet, Opc.agcDcWrite, Opc.fpgaVersionRead, Opc.expgpioRead, Opc.expgpioDirRead, Opc.drain]

theorem post_plain {d : OpDesc} (h : plainOpc d.opc = true) (v : BitVec 64) (r : Result) :
    post d v r = .ok { r with data := v } := by
  obtain ⟨htamer, -, hversion, hgpio, hdir, -⟩ := plainOpc_iff.mp h
  simp [post, htamer, hversion, hgpio, hdir]

section
variable {c : WidthClass} {B : Packet} {s : State} {i : Instr} (hrecv : s.dState = .recv)
  (hplain : plainOpc s.sOp.opc = true) (hfam : s.sFam = .width c)

theorem ne_agc_of_plain {opc : BitVec 8} (h : plainOpc opc = true) : opc ≠ Opc.agcDcWrite := by
  obtain ⟨-, hagc, -⟩ := plainOpc_iff.mp h
  exact hagc

theorem ne_drain_of_plain {opc : BitVec 8} (h : plainOpc opc = true) : opc ≠ Opc.drain := by
  obtain ⟨-, -, -, -, -, hdrain⟩ := plainOpc_iff.mp h
  exact hdrain

include hrecv hplain hfam

/-- A plain operation ends OK with the data field and the two flag bits. -/
theorem exec_plain_ok (himage : encode i = .response B) (hm : byteAt B 0 = widthMagic c) (hf : ¬FailureFlagged c B) :
    exec i s = .next (endedState { flagsResult B with data := dataOf c B } { s with dResp := B }) := by
  rw [exec_response_width himage hrecv hfam (ne_agc_of_plain hplain) (ne_drain_of_plain hplain),
    handleWidth_ok (s := { s with dResp := B }) hm hf (post_plain hplain ..)]
  rfl

theorem exec_plain_failed (himage : encode i = .response B) (hm : byteAt B 0 = widthMagic c) (hf : FailureFlagged c B) :
    exec i s = .next (endedState (failedResult B) { s with dResp := B }) := by
  rw [exec_response_width himage hrecv hfam (ne_agc_of_plain hplain) (ne_drain_of_plain hplain),
    handleWidth_failed hm hf (s := { s with dResp := B }) (ne_agc_of_plain hplain)]

/-- In a class with a success bit, that bit decides. -/
theorem exec_plain_wide (himage : encode i = .response B) (hm : byteAt B 0 = widthMagic c) (hd : definesSuccess c = true) :
    exec i s = .next
      (if bit1 (byteAt B 2) = true then
        endedState { data := dataOf c B, write := bit0 (byteAt B 2), flag1 := true } { s with dResp := B }
      else endedState (failedResult B) { s with dResp := B }) := by
  split
  · next h =>
    rw [exec_plain_ok hrecv hplain hfam himage hm (not_failureFlagged_of_bit1 h), flagsResult_of_bit1 h]
  · next h => exact exec_plain_failed hrecv hplain hfam himage hm ⟨hd, Bool.eq_false_iff.mpr h⟩

end

/-- Settles O44: 8x8 and 8x16 have no success bit, so a response with their magic ends OK. -/
theorem narrowResponsesEndOk : Obligations.NarrowResponsesEndOk :=
  fun _ _ hrecv hplain =>
    ⟨fun hfam => exec_plain_ok hrecv hplain hfam rfl rfl (not_failureFlagged_of_narrow rfl),
      fun hfam => exec_plain_ok hrecv hplain hfam rfl rfl (not_failureFlagged_of_narrow rfl)⟩

/-- Settles O45. -/
theorem wideResponsesNeedTheSuccessBit : Obligations.WideResponsesNeedTheSuccessBit :=
  fun _ _ hrecv hplain =>
    ⟨fun hfam => exec_plain_wide hrecv hplain hfam rfl rfl rfl, fun hfam => exec_plain_wide hrecv hplain hfam rfl rfl rfl,
      fun hfam => exec_plain_wide hrecv hplain hfam rfl rfl rfl⟩

/-! `TAMER_GET` (R234). -/

theorem post_tamerGet {d : OpDesc} (h : d.opc = Opc.tamerGet) (v : BitVec 64) (r : Result) :
    post d v r = if v.toNat ≤ 2 then .ok { r with data := v } else .error v :=
  if_pos h

/-- The data byte of an 8x8 response is a mode exactly when it is 0, 1 or 2 (R233). -/
theorem dataOf_8x8_le_two_iff (B : Packet) :
    (dataOf .c8x8 B).toNat ≤ 2 ↔ byteAt B 5 = 0 ∨ byteAt B 5 = 1 ∨ byteAt B 5 = 2 := by
  rw [dataOf, BitVec.toNat_setWidth]
  bv_omega

/-- Settles O46: `POST` answers the byte or reports it, and 8x8 has no success bit before it. -/
theorem tamerModeIsChecked : Obligations.TamerModeIsChecked := by
  intro b s hrecv hfam hop B m
  have hagc : s.sOp.opc ≠ Opc.agcDcWrite := by rw [hop]; decide
  have hdrain : s.sOp.opc ≠ Opc.drain := by rw [hop]; decide
  have hown : byteAt B 0 = widthMagic .c8x8 := rfl
  have hf : ¬FailureFlagged .c8x8 B := not_failureFlagged_of_narrow rfl
  have hpost := post_tamerGet hop (dataOf .c8x8 B) (flagsResult B)
  rw [exec_response_width (B := B) rfl hrecv hfam hagc hdrain]
  by_cases hmode : m = 0 ∨ m = 1 ∨ m = 2
  · rw [if_pos ((dataOf_8x8_le_two_iff B).mpr hmode)] at hpost
    rw [handleWidth_ok (s := { s with dResp := B }) hown hf hpost, if_pos hmode]
    rfl
  · rw [if_neg (mt (dataOf_8x8_le_two_iff B).mp hmode)] at hpost
    rw [handleWidth_unexpected (s := { s with dResp := B }) hown hf hagc hpost, if_neg hmode]
    rfl

/-! Operations of a class with a success bit whose post-processing accepts every value (R251, R264, R266). -/

/-- The success bit decides, and what is reported on success is the operation's post-processing. -/
theorem exec_posted_wide {c : WidthClass} {B : Packet} {s : State} {i : Instr} {r : Result} (hrecv : s.dState = .recv)
    (hfam : s.sFam = .width c) (hagc : s.sOp.opc ≠ Opc.agcDcWrite) (hdrain : s.sOp.opc ≠ Opc.drain)
    (himage : encode i = .response B) (hm : byteAt B 0 = widthMagic c) (hd : definesSuccess c = true)
    (hpost : bit1 (byteAt B 2) = true → post s.sOp (dataOf c B) { write := bit0 (byteAt B 2), flag1 := true } = .ok r) :
    exec i s = .next
      (if bit1 (byteAt B 2) = true then endedState { r with status := .ok } { s with dResp := B }
      else endedState (failedResult B) { s with dResp := B }) := by
  rw [exec_response_width himage hrecv hfam hagc hdrain]
  split
  · next h =>
    rw [← flagsResult_of_bit1 h] at hpost
    rw [handleWidth_ok (s := { s with dResp := B }) hm (not_failureFlagged_of_bit1 h) (hpost h)]
  · next h => rw [handleWidth_failed (s := { s with dResp := B }) hm ⟨hd, Bool.eq_false_iff.mpr h⟩ hagc]

/-- The version word's three fields are bytes 7, 6 and 5 of the response (R251). -/
theorem versionFields_eq_bytes (B : Packet) :
    (dataOf .c8x32 B).extractLsb' 16 8 = byteAt B 7 ∧ (dataOf .c8x32 B).extractLsb' 8 8 = byteAt B 6 ∧
      (dataOf .c8x32 B).extractLsb' 0 8 = byteAt B 5 := by
  refine ⟨?_, ?_, ?_⟩ <;>
  · apply BitVec.eq_of_getLsbD_eq
    intro i hi
    simp only [dataOf, BitVec.getLsbD_extractLsb', BitVec.getLsbD_setWidth, BitVec.getLsbD_append]
    interval_cases i <;> simp

theorem post_fpgaVersionRead {d : OpDesc} (h : d.opc = Opc.fpgaVersionRead) (B : Packet) (r : Result) :
    post d (dataOf .c8x32 B) r =
      .ok { r with data := dataOf .c8x32 B, major := byteAt B 7, minor := byteAt B 6, patch := byteAt B 5 } := by
  have htamer : d.opc ≠ Opc.tamerGet := by rw [h]; decide
  obtain ⟨hmajor, hminor, hpatch⟩ := versionFields_eq_bytes B
  rw [post, if_neg htamer, if_pos h, hmajor, hminor, hpatch]

/-- Settles O47. -/
theorem fpgaVersionIsSplit : Obligations.FpgaVersionIsSplit := by
  intro b s hrecv hfam hop B
  have hagc : s.sOp.opc ≠ Opc.agcDcWrite := by rw [hop]; decide
  have hdrain : s.sOp.opc ≠ Opc.drain := by rw [hop]; decide
  exact exec_posted_wide hrecv hfam hagc hdrain (B := B) rfl rfl rfl fun _ => post_fpgaVersionRead hop B _

theorem post_masked {d : OpDesc} (h : d.opc = Opc.expgpioRead ∨ d.opc = Opc.expgpioDirRead) (v : BitVec 64) (r : Result) :
    post d v r = .ok { r with data := v &&& d.fields.addr.setWidth 64 } := by
  have htamer : d.opc ≠ Opc.tamerGet := by rcases h with h | h <;> rw [h] <;> decide
  have hversion : d.opc ≠ Opc.fpgaVersionRead := by rcases h with h | h <;> rw [h] <;> decide
  rw [post, if_neg htamer, if_neg hversion, if_pos h]

/-- Settles O48. -/
theorem maskedReadsReportOnlyMaskedBits : Obligations.MaskedReadsReportOnlyMaskedBits := by
  intro b s hrecv hfam hop B
  have hagc : s.sOp.opc ≠ Opc.agcDcWrite := by rcases hop with h | h <;> rw [h] <;> decide
  have hdrain : s.sOp.opc ≠ Opc.drain := by rcases hop with h | h <;> rw [h] <;> decide
  exact exec_posted_wide hrecv hfam hagc hdrain (B := B) rfl rfl rfl fun _ => post_masked hop _ _

/-! The sequencer (R247). -/

/-- With `AGC_DC_WRITE` in flight every response row is a step of the sequencer. -/
theorem exec_response_agc {i : Instr} {B : Packet} {s : State} (himage : encode i = .response B) (hrecv : s.dState = .recv)
    (hagc : s.sOp.opc = Opc.agcDcWrite) : exec i s = .next (handleAgc B { s with dResp := B }) := by
  have hdrain : s.sOp.opc ≠ Opc.drain := by rw [hagc]; decide
  rw [exec_of_response himage, receive_receiving hrecv, takeResponse_handle hdrain,
    handle_agc (s := { s with dResp := B }) hagc]

/-- Settles O49. -/
theorem agcSequencerAdvancesInOrder : Obligations.AgcSequencerAdvancesInOrder := by
  refine fun s hrecv hagc => ⟨fun b k hk => ?_, fun b hidx => ?_, fun i B himage hm => ?_⟩
  · rw [exec_response_agc (B := frame 0x42 b) rfl hrecv hagc,
      handleAgc_advances (s := { s with dResp := frame 0x42 b }) rfl k hk, agcRequest_eq_layout8x16]
  · rw [exec_response_agc (B := frame 0x42 b) rfl hrecv hagc,
      handleAgc_ends (s := { s with dResp := frame 0x42 b }) rfl hidx]
    rfl
  · rw [exec_response_agc himage hrecv hagc, handleAgc_foreign hm, raise_eq_failedState rfl]

end Sys2Proof.TargetMap
end

section
/-! Whole operations from offer to result (43_target_map.md R222, R247, 70_reset_and_hazards.md R372): O54 and O55. -/

namespace Sys2Proof.TargetMap

open Machine Laws Encoding WidthCodecs Dispatcher RetuneEngine

/-! A plain width-class operation in three steps. -/

/-- The result of a plain width-class operation, by its response (R134, R222). -/
def plainResult (c : WidthClass) (B : Packet) : Result :=
  if byteAt B 0 ≠ widthMagic c then { status := .framingError, data := (byteAt B 0).setWidth 64 }
  else if (c = .c8x32 ∨ c = .c16x64 ∨ c = .c32x32) ∧ bit1 (byteAt B 2) = false then failedResult B
  else { flagsResult B with data := dataOf c B }

/-- `HANDLE_WC` of an operation that no step looks for by its code: magic, success bit, data (R222). -/
theorem handleWidth_of_unnoticed {s : State} (h : Unnoticed s.sOp.opc) (c : WidthClass) (B : Packet) :
    handleWidth c B s = endedState (plainResult c B) s := by
  by_cases hm : byteAt B 0 = widthMagic c
  · have hdef := definesSuccess_iff c
    rw [plainResult, if_neg (not_not_intro hm)]
    split
    · next hf => exact handleWidth_failed hm ⟨hdef.mpr hf.1, hf.2⟩ h.ne_agcDcWrite
    · next hf => exact handleWidth_ok hm (fun h => hf ⟨hdef.mp h.1, h.2⟩) (post_of_unnoticed h ..)
  · obtain ⟨-, hforeign⟩ | ⟨hown, -⟩ := handleWidth_cases c B s
    · rw [plainResult, if_pos hm, hforeign, raise_of_unnoticed h]
      rfl
    · exact absurd hown hm

/-- An operation with a request of a width class is no retune (R113). -/
theorem not_retune_of_decodeSpec_width {cfg : Cfg} {d : OpDesc} {c : WidthClass} {Q : Packet}
    (h : decodeSpec cfg d = some (.width c, Q)) : d.opc ≠ 0x70 ∧ d.opc ≠ 0x71 := by
  rw [← requestOf_eq_decodeSpec] at h
  obtain ⟨-, h70, h71⟩ := requestOf_family h
  exact ⟨fun hop => (nomatch h70.mpr hop), fun hop => (nomatch h71.mpr hop)⟩

section
variable {s : State}

/-- The accept step of an operation other than a retune and `DRAIN` that the table has a request for (R192). -/
theorem step_accepted {d : OpDesc} {rest : List OpDesc} {c : WidthClass} {Q : Packet} (hrun : running s)
    (hidle : s.dState = .idle) (hoffer : s.env.offers = d :: rest) (hdrain : d.opc ≠ Opc.drain)
    (hspec : decodeSpec s.cfg d = some (.width c, Q)) :
    step s = .next (acceptedState d (.width c) Q (withOffers rest s)) := by
  obtain ⟨h70, h71⟩ := not_retune_of_decodeSpec_width hspec
  rw [acceptStepFollowsDecode d rest s hrun hidle hoffer hdrain, hspec]
  simp only [acceptedAs, if_neg h70, if_neg h71]

/-- The send step with an OK from the transport (R193). -/
theorem step_sent {ss : List SendOutcome} (hrun : running s) (hsend : s.dState = .send) (hin : s.env.sends = .ok :: ss) :
    step s = .next { handedOver .ok ss s with dState := .recv } :=
  (sendStepHandsOverTheRequest s ss hrun hsend).1 hin

/-- The receive step with a buffer of 16 bytes (R194). -/
theorem step_handled {B : Packet} {rs : List RecvOutcome} (hrun : running s) (hrecv : s.dState = .recv)
    (hin : s.env.recvs = .ok 16 B :: rs) (hdrain : s.sOp.opc ≠ Opc.drain) :
    step s = .next (handle B { delivered (.ok 16 B) rs s with dResp := B }) := by
  have htaken := receiveStep_handle (s := delivered (.ok 16 B) rs s) hdrain hrun.1.symm B
  rw [step_response hrun hrecv hin]
  exact congrArg _ htaken

end

/-- Settles O54: accept, send, receive; the handler of the third step ends the operation with the result. -/
theorem plainOperationEndsInThreeSteps : Obligations.PlainOperationEndsInThreeSteps := by
  intro s d rest c Q B ss rs hrun hidle hoffer hplain hspec hsends hrecvs r
  have hdrain : d.opc ≠ Opc.drain := ne_drain_of_plain hplain
  have hunnoticed : Unnoticed d.opc := by
    obtain ⟨h70, h71⟩ := not_retune_of_decodeSpec_width hspec
    exact ⟨hplain, by rw [retuneOpc, beq_false_of_ne h70, beq_false_of_ne h71]; rfl⟩
  let s1 : State := acceptedState d (.width c) Q (withOffers rest s)
  let s2 : State := { handedOver .ok ss s1 with dState := .recv }
  let s3 : State := { delivered (.ok 16 B) rs s2 with dResp := B }
  have h1 : step s = .next s1 := step_accepted hrun hidle hoffer hdrain hspec
  have h2 : step s1 = .next s2 := step_sent hrun rfl hsends
  have h3 : step s2 = .next (handle B s3) := step_handled hrun rfl hrecvs hdrain
  have hend : handle B s3 = endedState r s3 := by
    rw [handle_width (s := s3) hunnoticed.ne_agcDcWrite rfl]
    exact handleWidth_of_unnoticed (s := s3) hunnoticed c B
  rw [run_succ h1, run_succ h2, run_succ h3, hend]
  rfl

/-! The sequencer: six exchanges of two steps (R247). -/

/-- `s` after one exchange: the request in `d_req` sent, the buffer of body `b` received. -/
def exchanged (b : Body) (ss : List SendOutcome) (rs : List RecvOutcome) (s : State) : State :=
  { s with
    dResp := frame 0x42 b
    env := { s.env with
      sends := ss
      recvs := rs
      trace := .received s.cfg.respEp (.ok 16 (frame 0x42 b)) :: .sent s.cfg.cmdEp s.dReq .ok :: s.env.trace } }

section
variable {s : State} {b : Body} {ss : List SendOutcome} {rs : List RecvOutcome} (hrun : running s) (hsend : s.dState = .send)
  (hagc : s.sOp.opc = Opc.agcDcWrite) (hsends : s.env.sends = .ok :: ss)
  (hrecvs : s.env.recvs = .ok 16 (frame 0x42 b) :: rs)
include hrun hsend hagc hsends hrecvs

/-- An exchange is a send step and a step of the sequencer. -/
theorem run_agc_exchange {n : Nat} :
    Host.Core.run Sys2Proof.core (n + 2) s =
      Host.Core.run Sys2Proof.core n (handleAgc (frame 0x42 b) { exchanged b ss rs s with dState := .recv }) := by
  have hdrain : s.sOp.opc ≠ Opc.drain := by rw [hagc]; decide
  let t : State := { handedOver .ok ss s with dState := .recv }
  have h1 : step s = .next t := step_sent hrun hsend hsends
  have h2 : step t = .next (handle (frame 0x42 b) { exchanged b ss rs s with dState := .recv }) :=
    step_handled (s := t) hrun rfl hrecvs hdrain
  rw [run_succ h1, run_succ h2, handle_agc (s := { exchanged b ss rs s with dState := .recv }) hagc]

/-- Before the last index the exchange leaves the next request in `d_req`. -/
theorem run_agc_advances {k : Fin 6} {n : Nat} (hk : k.val = s.sIdx.val + 1) :
    Host.Core.run Sys2Proof.core (n + 2) s =
      Host.Core.run Sys2Proof.core n { exchanged b ss rs s with
        sIdx := k, dReq := layout8x16 2 1 (BitVec.ofNat 8 k.val) s.sOp.fields.agc[k] } := by
  rw [run_agc_exchange hrun hsend hagc hsends hrecvs,
    handleAgc_advances (s := { exchanged b ss rs s with dState := .recv }) rfl k hk, agcRequest_eq_layout8x16, ← hsend]
  rfl

/-- The exchange of the last index ends the operation. -/
theorem run_agc_ends (hidx : s.sIdx.val = 5) :
    Host.Core.run Sys2Proof.core 2 s =
      .next (endedState { flag1 := bit1 (byteAt (frame 0x42 b) 2), idx := 6 } (exchanged b ss rs s)) := by
  rw [run_agc_exchange hrun hsend hagc hsends hrecvs,
    handleAgc_ends (s := { exchanged b ss rs s with dState := .recv }) rfl hidx]
  rfl

end

/-- Settles O55: the accept step leaves the write of index 0, five exchanges go on to the next write each, the sixth ends. -/
theorem agcTakesThirteenSteps : Obligations.AgcTakesThirteenSteps := by
  intro s o rest b ss rs hrun hidle hoffer hsends hrecvs q r
  have hdrain : (OpDesc.mk 0x34 o).opc ≠ Opc.drain := by dsimp only; decide
  have haccept := step_accepted (c := .c8x16) hrun hidle hoffer hdrain rfl
  -- `by exact` puts the hypotheses off until the goal has told which state the exchange starts from
  refine Eq.trans (run_succ haccept 12) ?_
  refine Eq.trans (run_agc_advances (k := 1) (by exact hrun) rfl rfl (by exact hsends) (by exact hrecvs) rfl) ?_
  refine Eq.trans (run_agc_advances (k := 2) (by exact hrun) rfl rfl rfl rfl rfl) ?_
  refine Eq.trans (run_agc_advances (k := 3) (by exact hrun) rfl rfl rfl rfl rfl) ?_
  refine Eq.trans (run_agc_advances (k := 4) (by exact hrun) rfl rfl rfl rfl rfl) ?_
  refine Eq.trans (run_agc_advances (k := 5) (by exact hrun) rfl rfl rfl rfl rfl) ?_
  exact run_agc_ends (by exact hrun) rfl rfl rfl rfl rfl

end Sys2Proof.TargetMap
end

section
/-! No old result reaches a new one (10_state.md R40): O59. Two blocks that differ in their result registers only: `withRes r`
exchanges them; an ending step overwrites all of them, and the other steps read none. -/

namespace Sys2Proof.Dispatcher

open Machine Laws Encoding

/-- `s` with the result registers `r`. -/
def withRes (r : Result) (s : State) : State := { s with res := r }

/-- `t` and `u`, stepped to from two blocks that differ in their result registers only, differ in no other, and not even there
where the step ended an operation. -/
def NoLeak (s t u : State) : Prop := ∃ r, u = withRes r t ∧ (t.dState = .idle → t.env ≠ s.env → r = t.res)

section
variable {s t : State}

/-- The step overwrites the result registers. -/
theorem noLeak_same : NoLeak s t t := ⟨t.res, rfl, fun _ _ => rfl⟩

/-- The step ends no operation. -/
theorem noLeak_busy (hbusy : t.dState ≠ .idle) (r : Result) : NoLeak s t (withRes r t) :=
  ⟨r, rfl, fun hidle => absurd hidle hbusy⟩

/-- The step waits. -/
theorem noLeak_waits (r : Result) : NoLeak s s (withRes r s) := ⟨r, rfl, fun _ henv => absurd rfl henv⟩

theorem noLeak_acceptStep (d : OpDesc) (r : Result) : NoLeak s (acceptStep d t) (acceptStep d (withRes r t)) := by
  by_cases hdrain : d.opc = Opc.drain
  · rw [acceptStep_drain hdrain, acceptStep_drain hdrain]
    exact noLeak_busy (by nofun) { r with valid := false }
  · cases hreq : requestOf t.cfg d with
    | none =>
      rw [acceptStep_invalid hdrain hreq, acceptStep_invalid (s := withRes r t) hdrain hreq]
      exact noLeak_same
    | some p =>
      rw [acceptStep_request hdrain hreq, acceptStep_request (s := withRes r t) hdrain hreq, acceptRequest_eq,
        acceptRequest_eq]
      exact noLeak_busy (by nofun) { r with valid := false }

theorem noLeak_sendStep (r : Result) : NoLeak s (sendStep s) (sendStep (withRes r s)) := by
  cases hin : s.env.sends with
  | nil =>
    have h : ∀ u : State, u.env.sends = [] → sendStep u = u := fun u hu => by rw [sendStep, hu]
    rw [h s hin, h (withRes r s) hin]
    exact noLeak_waits r
  | cons out rest =>
    cases out with
    | ok =>
      rw [sendStep_ok hin, sendStep_ok (s := withRes r s) hin]
      exact noLeak_busy (by nofun) r
    | terr e =>
      rw [sendStep_terr hin, sendStep_terr (s := withRes r s) hin]
      exact noLeak_same

theorem noLeak_handle (B : Packet) (r : Result) : NoLeak s (handle B t) (handle B (withRes r t)) := by
  by_cases hagc : t.sOp.opc = Opc.agcDcWrite
  · rw [handle_agc hagc, handle_agc (s := withRes r t) hagc]
    by_cases hm : byteAt B 0 = 0x42
    · by_cases hidx : t.sIdx.val = 5
      · rw [handleAgc_ends hm hidx, handleAgc_ends (s := withRes r t) hm hidx]
        exact noLeak_same
      · have hk : t.sIdx.val + 1 < 6 := by omega
        rw [handleAgc_advances hm ⟨_, hk⟩ rfl, handleAgc_advances (s := withRes r t) hm ⟨_, hk⟩ rfl]
        exact noLeak_busy (by nofun) r
    · rw [handleAgc_foreign hm, handleAgc_foreign (s := withRes r t) hm]
      exact noLeak_same
  · cases hfam : t.sFam with
    | width c =>
      rw [handle_width hagc hfam, handle_width (s := withRes r t) hagc hfam]
      exact noLeak_same
    | retune =>
      rw [handle_retune hagc hfam, handle_retune (s := withRes r t) hagc hfam]
      exact noLeak_same
    | retune2 =>
      rw [handle_retune2 hagc hfam, handle_retune2 (s := withRes r t) hagc hfam]
      exact noLeak_same

theorem noLeak_receiveStep (out : RecvOutcome) (r : Result) :
    NoLeak s (receiveStep out t) (receiveStep out (withRes r t)) := by
  cases out with
  | terr e => exact noLeak_same
  | ok len B =>
    by_cases hdrain : t.sOp.opc = Opc.drain
    · rw [receiveStep_drain hdrain, receiveStep_drain (s := withRes r t) hdrain]
      exact noLeak_same
    · by_cases hlen : len = t.cfg.respLen
      · rw [receiveStep_handle hdrain hlen, receiveStep_handle (s := withRes r t) hdrain hlen]
        exact noLeak_handle (t := { t with dResp := B }) B r
      · rw [receiveStep_length hdrain hlen, receiveStep_length (s := withRes r t) hdrain hlen]
        exact noLeak_same

theorem noLeak_enabledStep (s : State) (r : Result) : NoLeak s (enabledStep s) (enabledStep (withRes r s)) := by
  cases hst : s.dState with
  | idle =>
    cases hoffer : s.env.offers with
    | nil =>
      rw [enabledStep_no_offer hst hoffer, enabledStep_no_offer (s := withRes r s) hst hoffer]
      exact noLeak_waits r
    | cons d rest =>
      rw [enabledStep_offer hst hoffer, enabledStep_offer (s := withRes r s) hst hoffer]
      exact noLeak_acceptStep (t := withOffers rest s) d r
  | send =>
    rw [enabledStep_send hst, enabledStep_send (s := withRes r s) hst]
    exact noLeak_sendStep r
  | recv =>
    cases hin : s.env.recvs with
    | nil =>
      rw [enabledStep_no_response hst hin, enabledStep_no_response (s := withRes r s) hst hin]
      exact noLeak_waits r
    | cons out rest =>
      rw [enabledStep_response hst hin, enabledStep_response (s := withRes r s) hst hin]
      exact noLeak_receiveStep (t := delivered out rest s) out r

end

/-- Settles O59. -/
theorem noOldResultLeaks : Obligations.NoOldResultLeaks := by
  intro s t r hrun hstep
  rw [step_running hrun] at hstep
  cases hstep
  obtain ⟨r', heq, hend⟩ := noLeak_enabledStep s r
  have hstep' : step (withRes r s) = .next (enabledStep (withRes r s)) := step_running (s := withRes r s) hrun
  exact ⟨r', hstep'.trans (congrArg _ heq), hend⟩

end Sys2Proof.Dispatcher
end

section
/-! The fields of a packet (00_scope.md R10, 20_memory.md R60): O7. -/

namespace Sys2Proof.WidthCodecs

open Machine Laws

/-- Settles O7: the two laws of `MemWrite`, inside its field and outside. -/
theorem fieldReadsBackWhatWasWritten : Obligations.FieldReadsBackWhatWasWritten :=
  fun B off n v hfit => ⟨memRead_memWrite B off n v hfit, fun j hj => byteAt_memWrite_outside n B off v j hj⟩

end Sys2Proof.WidthCodecs
end
